-- ==== Sys2Proof/Word.lean ====
section
/-! DEFINITION. The word types of the machine (R6, R8) and the type of its memories. -/

namespace Sys2Proof

/-- A register, flag image or memory byte: 8 bits (R6). -/
abbrev Byte := BitVec 8

/-- A CPU address or the program counter: 16 bits (R6). -/
abbrev Word := BitVec 16

/-- A memory: the bytes that differ from 0x00, by rising address. Its operations and its canonical form
`Memory.wf` are in Machine/Memory.lean. -/
abbrev Memory := List Host.Cell

end Sys2Proof
end

