-- ==== Sys2Proof/Machine/Bits.lean ====
section
/-! DEFINITION. The bit-field, extension and byte-order helpers of R8. -/

namespace Sys2Proof.Machine

/-- `lo8(v)` (R8). -/
def lo8 (w : Word) : Byte := w.setWidth 8

/-- `hi8(v)` (R8): the page of an address. -/
def hi8 (w : Word) : Byte := (w >>> 8).setWidth 8

/-- `w16(h, l)` (R8): the word whose high byte is `h` and low byte is `l`. -/
def w16 (h l : Byte) : Word := h ++ l

/-- `zext_16(b)` (R8). -/
def zext16 (b : Byte) : Word := b.setWidth 16

/-- `sext_8(b)` (R8): the signed value of a byte. -/
def sext8 (b : Byte) : Int := b.toInt

/-- A 16-bit address moved by a signed offset, modulo 0x10000 (R96). -/
def addOffset (w : Word) (off : Int) : Word := w + BitVec.ofInt 16 off

/-- A flag as the byte 0 or 1. -/
def flagByte (b : Bool) : Byte := if b then 1 else 0

/-- A flag at bit `k` of a byte. -/
def flagAt (b : Bool) (k : Nat) : Byte := flagByte b <<< k

end Sys2Proof.Machine
end

