-- ==== Sys2Proof/Config.lean ====
section
/-! DEFINITION. The launch parameters of R7, the cartridge of R30, and the values the spec leaves free. -/

namespace Sys2Proof

/-- `BUS_VARIANT` (R43). -/
inductive BusVariant where
  | nes
  | flatRam
  deriving DecidableEq, Repr

/-- `PC_ADVANCE_RULE` (R86). -/
inductive PcAdvanceRule where
  | byClass
  | bySnapshot
  deriving DecidableEq, Repr

/-- `STUB_POLICY` (44_undocumented.md section 5). -/
inductive StubPolicy where
  | refuse
  | nmos
  deriving DecidableEq, Repr

/-- `PRG_WRITE_POLICY` (R53). -/
inductive PrgWritePolicy where
  | fault
  | ignore
  deriving DecidableEq, Repr

/-- `OAM_DMA_MODE` (R229). -/
inductive OamDmaMode where
  | noOp
  | copy
  deriving DecidableEq, Repr

/-- `CART.mirroring` (R30). -/
inductive Mirroring where
  | vertical
  | horizontal
  | fourScreen
  deriving DecidableEq, Repr

/-- The two PRG ROM sizes of R6 and R30. -/
inductive PrgSize where
  | k16
  | k32
  deriving DecidableEq, Repr

/-- The cartridge (R30). `prg` and `chr` hold the nonzero bytes of two byte sequences, whose lengths are
`prgSize` and `chrLen`. -/
structure Cart where
  prgSize   : PrgSize
  prg       : Memory
  chrLen    : Nat
  chr       : Memory
  mirroring : Mirroring
  deriving DecidableEq, Repr

/-- The launch parameters of R7, fixed for a run (`CART` apart). -/
structure Params where
  busVariant       : BusVariant
  pcAdvanceRule    : PcAdvanceRule
  intServiceCycles : Nat
  stubPolicy       : StubPolicy
  nopReadsOperand  : Bool
  prgWritePolicy   : PrgWritePolicy
  oamDmaMode       : OamDmaMode
  oamDmaCycles     : Nat
  paletteMirror    : Bool
  deriving DecidableEq, Repr

/-- FREE VALUE. `INT_SERVICE_CYCLES`, which R7 and D3 leave OPEN (log 3). -/
opaque Config.intServiceCycles : Nat

/-- FREE VALUE. The byte the host supplies for the n-th read of 0x4017: "a draw, under no law" (R50, log 5). -/
opaque Config.hostByte4017 : Nat → Byte

/-- The defaults of R7. -/
def Params.default : Params where
  busVariant       := .nes
  pcAdvanceRule    := .byClass
  intServiceCycles := Config.intServiceCycles
  stubPolicy       := .refuse
  nopReadsOperand  := false
  prgWritePolicy   := .fault
  oamDmaMode       := .noOp
  oamDmaCycles     := 0
  paletteMirror    := false

/-- DESIGN CHOICE (log 4): the cartridge of `State.reset`, since `CART` is a launch input with no default:
32 KiB of PRG that is all zero, no CHR, Vertical mirroring. -/
def Cart.empty : Cart where
  prgSize   := .k32
  prg       := []
  chrLen    := 0
  chr       := []
  mirroring := .vertical

end Sys2Proof
end

