-- ==== Sys2Proof/Machine/State.lean ====
section
/-! DEFINITION. The state of the machine (10_state.md), the state after reset, and the reasons a step can stop. -/

namespace Sys2Proof.Machine

/-- The status word `P`: seven flags, no stored bit 5 (R18). -/
structure Flags where
  n : Bool
  v : Bool
  b : Bool
  d : Bool
  i : Bool
  z : Bool
  c : Bool
  deriving DecidableEq, Repr

/-- The PPU (R31 to R35). -/
structure Ppu where
  vram       : Memory
  palette    : Memory
  oam        : Memory
  fb         : Memory      -- pixel (y, x) under key y * 256 + x
  ctrl       : Byte
  mask       : Byte
  vblank     : Bool
  oamAddr    : Byte
  latch      : Word
  readBuffer : Byte
  databus    : Byte
  scanline   : BitVec 16
  cycle      : BitVec 9
  nmiOut     : Bool
  deriving DecidableEq, Repr

/-- The gamepad port (R36). -/
structure Pad where
  strobe   : Bool
  index    : BitVec 3
  snapshot : Byte
  deriving DecidableEq, Repr

/-- The whole block: CPU (R14 to R25), bus storage (R27 to R29), PPU, gamepad port; the host's inputs `buttons`
(R36, log 6) and `draws`, the number of bytes drawn for reads of 0x4017 (R50, log 5); and the launch inputs, which no
step changes (R7, R30, log 2). -/
structure State where
  a          : Byte
  x          : Byte
  y          : Byte
  sp         : Byte
  pc         : Word
  p          : Flags
  nmiPending : Bool
  irqPending : Bool
  halted     : Bool
  refused    : Option Byte
  faulted    : Option Word
  cycles     : Nat
  wram       : Memory
  apu        : Memory
  ram        : Memory
  ppu        : Ppu
  pad        : Pad
  buttons    : Byte
  draws      : Nat
  params     : Params
  cart       : Cart
  deriving DecidableEq, Repr

/-- Why a step ends with a fault. All are safe: the machine stops where the spec says it does. -/
inductive Fault where
  /-- `Fault(BusError, addr)`: a write to PRG ROM under `PRG_WRITE_POLICY = Fault` (R194), raised by every
  instruction that writes memory. `left` is the state the step leaves, with the mark set. Safe. -/
  | busError (addr : Word) (left : State)
  /-- A step of a state that carries a `faulted` mark: such a state has no step (R196). Safe. -/
  | alreadyFaulted (addr : Word)
  /-- `UnimplementedOpcode` (R198): an opcode byte without a row, which the fetch would raise; never, since the
  table is complete. Safe. -/
  | unimplementedOpcode (op : Byte)
  deriving DecidableEq, Repr

/-- Why a step ends with a refusal. All are safe. -/
inductive Refusal where
  /-- An arm of `exec` without a meaning. No arm raises it in this model. Safe. -/
  | notModelled (mnemonic : String)
  /-- `Refused(op)` (R195): raised by the unstable six always and by the stable five under
  `STUB_POLICY = Refuse`. `left` is the state the step leaves, with the mark set. Safe. -/
  | refusedOpcode (op : Byte) (left : State)
  /-- A step of a state that carries a `refused` mark: such a state has no step (R196). Safe. -/
  | alreadyRefused (op : Byte)
  deriving DecidableEq, Repr

/-- How a step ends. -/
abbrev Result := Host.Outcome State Fault Refusal

/-- Every flag 0 (R18, power-on). -/
def Flags.powerOn : Flags := ⟨false, false, false, false, false, false, false⟩

/-- A freshly constructed PPU (R31 to R35, D28). -/
def Ppu.powerOn : Ppu where
  vram       := []
  palette    := []
  oam        := []
  fb         := []
  ctrl       := 0
  mask       := 0
  vblank     := false
  oamAddr    := 0
  latch      := 0
  readBuffer := 0
  databus    := 0
  scanline   := 0
  cycle      := 0
  nmiOut     := false

/-- The gamepad port at power-on (R36). -/
def Pad.powerOn : Pad := ⟨false, 0, 0⟩

/-- A freshly constructed machine (R239) with a cartridge and launch parameters. -/
def State.powerOn (cart : Cart) (params : Params) : State where
  a          := 0
  x          := 0
  y          := 0
  sp         := 0
  pc         := 0
  p          := Flags.powerOn
  nmiPending := false
  irqPending := false
  halted     := false
  refused    := none
  faulted    := none
  cycles     := 0
  wram       := []
  apu        := []
  ram        := []
  ppu        := Ppu.powerOn
  pad        := Pad.powerOn
  buttons    := 0
  draws      := 0
  params     := params
  cart       := cart

/-- The machine right after reset (R238, R239): power-on, then SP = 0xFD, P.I = 1 and PC = `read16(0xFFFC)`, which is
0x0000 with the zero-filled PRG of `Cart.empty` (log 4). `Sys2Proof.Laws.reset_eq_hostReset` ties it to the host's
`reset()`. -/
def State.reset : State :=
  { State.powerOn Cart.empty Params.default with
    sp := 0xFD
    p  := { Flags.powerOn with i := true }
    pc := 0x0000 }

end Sys2Proof.Machine
end

