-- ==== Sys2Proof/Machine/Flags.lean ====
section
/-! DEFINITION. The flags: serialisation (R20, R21), setNZ (R102), adder, subtracter, comparator and shifter
(R107 to R110). -/

namespace Sys2Proof.Machine

/-- `pack(P, b)` (R20). -/
def pack (p : Flags) (b : Bool) : Byte :=
  flagAt p.n 7 ||| flagAt p.v 6 ||| flagAt true 5 ||| flagAt b 4
    ||| flagAt p.d 3 ||| flagAt p.i 2 ||| flagAt p.z 1 ||| flagAt p.c 0

/-- `unpack(byte)` (R21): bit 5 is ignored and B unchanged. -/
def unpack (v : Byte) (p : Flags) : Flags where
  n := v.getLsbD 7
  v := v.getLsbD 6
  b := p.b
  d := v.getLsbD 3
  i := v.getLsbD 2
  z := v.getLsbD 1
  c := v.getLsbD 0

/-- `set_nz(v)` (R102). -/
def setNZ (v : Byte) (p : Flags) : Flags := { p with z := v == 0, n := v.getLsbD 7 }

/-- `add(m)` (R107): A plus m plus carry, binary whatever P.D. The new A and flags. -/
def add (a m : Byte) (p : Flags) : Byte × Flags :=
  let r := a.toNat + m.toNat + p.c.toNat
  let v := BitVec.ofNat 8 r
  (v, setNZ v { p with c := decide (r > 0xFF), v := (m ^^^ v) &&& (v ^^^ a) &&& 0x80 != 0 })

/-- `sub(m) = add(m XOR 0xFF)` (R108). -/
def sub (a m : Byte) (p : Flags) : Byte × Flags := add a (m ^^^ 0xFF) p

/-- `compare(reg, m)` (R109). -/
def compareFlags (reg m : Byte) (p : Flags) : Flags :=
  setNZ (reg - m) { p with c := decide (m.toNat ≤ reg.toNat) }

/-- `asl(v)` (R110). -/
def asl (v : Byte) (p : Flags) : Byte × Flags :=
  let r := v <<< 1
  (r, setNZ r { p with c := v.getLsbD 7 })

/-- `lsr(v)` (R110). -/
def lsr (v : Byte) (p : Flags) : Byte × Flags :=
  let r := v >>> 1
  (r, setNZ r { p with c := v.getLsbD 0 })

/-- `rol(v)` (R110): the carry before the instruction enters bit 0. -/
def rol (v : Byte) (p : Flags) : Byte × Flags :=
  let r := (v <<< 1) ||| flagAt p.c 0
  (r, setNZ r { p with c := v.getLsbD 7 })

/-- `ror(v)` (R110): the carry before the instruction enters bit 7. -/
def ror (v : Byte) (p : Flags) : Byte × Flags :=
  let r := (v >>> 1) ||| flagAt p.c 7
  (r, setNZ r { p with c := v.getLsbD 0 })

end Sys2Proof.Machine
end

