-- ==== Sys2Proof/Syntax.lean ====
section
/-! DEFINITION. The instructions: one constructor for each of the 256 rows of the opcode table (R67, R72).
A constructor's name is the mnemonic and, where a mnemonic has several rows, its addressing mode (imm Immediate,
zp Zeropage, zpx ZeropageX, zpy ZeropageY, abs Absolute, abx AbsoluteX, aby AbsoluteY, ind Indirect,
izx IndirectX, izy IndirectY, imp Implied) and, where mnemonic and mode still agree, the opcode byte.
Its argument is the operand of R66: a byte, a 16-bit address, or the signed offset of a branch. The rows with an
operand come first, then the Implied rows, each in opcode order. -/

namespace Sys2Proof

inductive Instr where
  | oraIzx (b : Byte)
  | sloIzx (b : Byte)
  | nopZp04 (b : Byte)
  | oraZp (b : Byte)
  | aslZp (b : Byte)
  | sloZp (b : Byte)
  | oraImm (b : Byte)
  | ancImm0B (b : Byte)
  | nopAbs (w : Word)
  | oraAbs (w : Word)
  | aslAbs (w : Word)
  | sloAbs (w : Word)
  | bpl (off : Int)
  | oraIzy (b : Byte)
  | sloIzy (b : Byte)
  | nopZpx14 (b : Byte)
  | oraZpx (b : Byte)
  | aslZpx (b : Byte)
  | sloZpx (b : Byte)
  | oraAby (w : Word)
  | sloAby (w : Word)
  | nopAbx1C (w : Word)
  | oraAbx (w : Word)
  | aslAbx (w : Word)
  | sloAbx (w : Word)
  | jsr (w : Word)
  | andIzx (b : Byte)
  | rlaIzx (b : Byte)
  | bitZp (b : Byte)
  | andZp (b : Byte)
  | rolZp (b : Byte)
  | rlaZp (b : Byte)
  | andImm (b : Byte)
  | ancImm2B (b : Byte)
  | bitAbs (w : Word)
  | andAbs (w : Word)
  | rolAbs (w : Word)
  | rlaAbs (w : Word)
  | bmi (off : Int)
  | andIzy (b : Byte)
  | rlaIzy (b : Byte)
  | nopZpx34 (b : Byte)
  | andZpx (b : Byte)
  | rolZpx (b : Byte)
  | rlaZpx (b : Byte)
  | andAby (w : Word)
  | rlaAby (w : Word)
  | nopAbx3C (w : Word)
  | andAbx (w : Word)
  | rolAbx (w : Word)
  | rlaAbx (w : Word)
  | eorIzx (b : Byte)
  | sreIzx (b : Byte)
  | nopZp44 (b : Byte)
  | eorZp (b : Byte)
  | lsrZp (b : Byte)
  | sreZp (b : Byte)
  | eorImm (b : Byte)
  | alr (b : Byte)
  | jmpAbs (w : Word)
  | eorAbs (w : Word)
  | lsrAbs (w : Word)
  | sreAbs (w : Word)
  | bvc (off : Int)
  | eorIzy (b : Byte)
  | sreIzy (b : Byte)
  | nopZpx54 (b : Byte)
  | eorZpx (b : Byte)
  | lsrZpx (b : Byte)
  | sreZpx (b : Byte)
  | eorAby (w : Word)
  | sreAby (w : Word)
  | nopAbx5C (w : Word)
  | eorAbx (w : Word)
  | lsrAbx (w : Word)
  | sreAbx (w : Word)
  | adcIzx (b : Byte)
  | rraIzx (b : Byte)
  | nopZp64 (b : Byte)
  | adcZp (b : Byte)
  | rorZp (b : Byte)
  | rraZp (b : Byte)
  | adcImm (b : Byte)
  | arr (b : Byte)
  | jmpInd (w : Word)
  | adcAbs (w : Word)
  | rorAbs (w : Word)
  | rraAbs (w : Word)
  | bvs (off : Int)
  | adcIzy (b : Byte)
  | rraIzy (b : Byte)
  | nopZpx74 (b : Byte)
  | adcZpx (b : Byte)
  | rorZpx (b : Byte)
  | rraZpx (b : Byte)
  | adcAby (w : Word)
  | rraAby (w : Word)
  | nopAbx7C (w : Word)
  | adcAbx (w : Word)
  | rorAbx (w : Word)
  | rraAbx (w : Word)
  | nopImm80 (b : Byte)
  | staIzx (b : Byte)
  | nopImm82 (b : Byte)
  | saxIzx (b : Byte)
  | styZp (b : Byte)
  | staZp (b : Byte)
  | stxZp (b : Byte)
  | saxZp (b : Byte)
  | nopImm89 (b : Byte)
  | ane (b : Byte)
  | styAbs (w : Word)
  | staAbs (w : Word)
  | stxAbs (w : Word)
  | saxAbs (w : Word)
  | bcc (off : Int)
  | staIzy (b : Byte)
  | shaIzy (b : Byte)
  | styZpx (b : Byte)
  | staZpx (b : Byte)
  | stxZpy (b : Byte)
  | saxZpy (b : Byte)
  | staAby (w : Word)
  | tas (w : Word)
  | shy (w : Word)
  | staAbx (w : Word)
  | shx (w : Word)
  | shaAby (w : Word)
  | ldyImm (b : Byte)
  | ldaIzx (b : Byte)
  | ldxImm (b : Byte)
  | laxIzx (b : Byte)
  | ldyZp (b : Byte)
  | ldaZp (b : Byte)
  | ldxZp (b : Byte)
  | laxZp (b : Byte)
  | ldaImm (b : Byte)
  | lxa (b : Byte)
  | ldyAbs (w : Word)
  | ldaAbs (w : Word)
  | ldxAbs (w : Word)
  | laxAbs (w : Word)
  | bcs (off : Int)
  | ldaIzy (b : Byte)
  | laxIzy (b : Byte)
  | ldyZpx (b : Byte)
  | ldaZpx (b : Byte)
  | ldxZpy (b : Byte)
  | laxZpy (b : Byte)
  | ldaAby (w : Word)
  | las (w : Word)
  | ldyAbx (w : Word)
  | ldaAbx (w : Word)
  | ldxAby (w : Word)
  | laxAby (w : Word)
  | cpyImm (b : Byte)
  | cmpIzx (b : Byte)
  | nopImmC2 (b : Byte)
  | dcpIzx (b : Byte)
  | cpyZp (b : Byte)
  | cmpZp (b : Byte)
  | decZp (b : Byte)
  | dcpZp (b : Byte)
  | cmpImm (b : Byte)
  | sbx (b : Byte)
  | cpyAbs (w : Word)
  | cmpAbs (w : Word)
  | decAbs (w : Word)
  | dcpAbs (w : Word)
  | bne (off : Int)
  | cmpIzy (b : Byte)
  | dcpIzy (b : Byte)
  | nopZpxD4 (b : Byte)
  | cmpZpx (b : Byte)
  | decZpx (b : Byte)
  | dcpZpx (b : Byte)
  | cmpAby (w : Word)
  | dcpAby (w : Word)
  | nopAbxDC (w : Word)
  | cmpAbx (w : Word)
  | decAbx (w : Word)
  | dcpAbx (w : Word)
  | cpxImm (b : Byte)
  | sbcIzx (b : Byte)
  | nopImmE2 (b : Byte)
  | isbIzx (b : Byte)
  | cpxZp (b : Byte)
  | sbcZp (b : Byte)
  | incZp (b : Byte)
  | isbZp (b : Byte)
  | sbcImm (b : Byte)
  | usbc (b : Byte)
  | cpxAbs (w : Word)
  | sbcAbs (w : Word)
  | incAbs (w : Word)
  | isbAbs (w : Word)
  | beq (off : Int)
  | sbcIzy (b : Byte)
  | isbIzy (b : Byte)
  | nopZpxF4 (b : Byte)
  | sbcZpx (b : Byte)
  | incZpx (b : Byte)
  | isbZpx (b : Byte)
  | sbcAby (w : Word)
  | isbAby (w : Word)
  | nopAbxFC (w : Word)
  | sbcAbx (w : Word)
  | incAbx (w : Word)
  | isbAbx (w : Word)
  | brk
  | jam02
  | php
  | aslImp
  | jam12
  | clc
  | nopImp1A
  | jam22
  | plp
  | rolImp
  | jam32
  | sec
  | nopImp3A
  | rti
  | jam42
  | pha
  | lsrImp
  | jam52
  | cli
  | nopImp5A
  | rts
  | jam62
  | pla
  | rorImp
  | jam72
  | sei
  | nopImp7A
  | dey
  | txa
  | jam92
  | tya
  | txs
  | tay
  | tax
  | jamB2
  | clv
  | tsx
  | iny
  | dex
  | jamD2
  | cld
  | nopImpDA
  | inx
  | nop
  | jamF2
  | sed
  | nopImpFA
  deriving DecidableEq, Repr

end Sys2Proof
end

