-- ==== Sys2Proof/Decode.lean ====
section
/-! DEFINITION. The opcode table, decoding and encoding (R64 to R75). -/

namespace Sys2Proof

open Sys2Proof.Machine

/-- The 12 addressing-mode tags (R65). -/
inductive Mode where
  | implied
  | immediate
  | zeropage
  | zeropageX
  | zeropageY
  | absolute
  | absoluteX
  | absoluteY
  | relative
  | indirect
  | indirectX
  | indirectY
  deriving DecidableEq, Repr

/-- The length of an instruction of each mode (R64). -/
def Mode.length : Mode → Nat
  | .implied => 1
  | .immediate | .zeropage | .zeropageX | .zeropageY | .relative | .indirectX | .indirectY => 2
  | .absolute | .absoluteX | .absoluteY | .indirect => 3

/-- The 77 mnemonics of the opcode table. -/
inductive Mnemonic where
  | adc | alr | anc | and | ane | arr | asl | bcc | bcs | beq | bit
  | bmi | bne | bpl | brk | bvc | bvs | clc | cld | cli | clv | cmp
  | cpx | cpy | dcp | dec | dex | dey | eor | inc | inx | iny | isb
  | jam | jmp | jsr | las | lax | lda | ldx | ldy | lsr | lxa | nop
  | ora | pha | php | pla | plp | rla | rol | ror | rra | rti | rts
  | sax | sbc | sbx | sec | sed | sei | sha | shx | shy | slo | sre
  | sta | stx | sty | tas | tax | tay | tsx | txa | txs | tya | usbc
  deriving DecidableEq, Repr

/-- A descriptor of the opcode table (R67); its length is the length of its mode. -/
structure Descriptor where
  code       : Byte
  mnemonic   : Mnemonic
  mode       : Mode
  baseCycles : Nat
  illegal    : Bool
  unstable   : Bool
  highlyUnstable : Bool
  addCycleOnPageCross : Bool
  deriving DecidableEq, Repr

def Descriptor.length (d : Descriptor) : Nat := d.mode.length

/-- A documented row with no flag. -/
def Descriptor.plain (code : Byte) (m : Mnemonic) (mode : Mode) (base : Nat) : Descriptor :=
  ⟨code, m, mode, base, false, false, false, false⟩

/-- A documented row with add-cycle-on-page-cross (`+` in the matrix of R71). -/
def Descriptor.cross (code : Byte) (m : Mnemonic) (mode : Mode) (base : Nat) : Descriptor :=
  ⟨code, m, mode, base, false, false, false, true⟩

/-- An illegal row (`*` in the matrix of R71). -/
def Descriptor.ill (code : Byte) (m : Mnemonic) (mode : Mode) (base : Nat) : Descriptor :=
  ⟨code, m, mode, base, true, false, false, false⟩

/-- An illegal row with add-cycle-on-page-cross. -/
def Descriptor.illCross (code : Byte) (m : Mnemonic) (mode : Mode) (base : Nat) : Descriptor :=
  ⟨code, m, mode, base, true, false, false, true⟩

/-- An illegal and unstable row (R70). -/
def Descriptor.illUnstable (code : Byte) (m : Mnemonic) (mode : Mode) (base : Nat) : Descriptor :=
  ⟨code, m, mode, base, true, true, false, false⟩

/-- An illegal, unstable and highly unstable row (R70). -/
def Descriptor.illHighly (code : Byte) (m : Mnemonic) (mode : Mode) (base : Nat) : Descriptor :=
  ⟨code, m, mode, base, true, true, true, false⟩

/-- Rows 0x00 to 0x0F of R72. -/
def opcodes0 : List Descriptor :=
  [ .plain 0x00 .brk .implied 7,
    .plain 0x01 .ora .indirectX 6,
    .ill 0x02 .jam .implied 2,
    .ill 0x03 .slo .indirectX 8,
    .ill 0x04 .nop .zeropage 3,
    .plain 0x05 .ora .zeropage 3,
    .plain 0x06 .asl .zeropage 5,
    .ill 0x07 .slo .zeropage 5,
    .plain 0x08 .php .implied 3,
    .plain 0x09 .ora .immediate 2,
    .plain 0x0A .asl .implied 2,
    .ill 0x0B .anc .immediate 2,
    .ill 0x0C .nop .absolute 4,
    .plain 0x0D .ora .absolute 4,
    .plain 0x0E .asl .absolute 6,
    .ill 0x0F .slo .absolute 6 ]

/-- Rows 0x10 to 0x1F of R72. -/
def opcodes1 : List Descriptor :=
  [ .plain 0x10 .bpl .relative 2,
    .cross 0x11 .ora .indirectY 5,
    .ill 0x12 .jam .implied 2,
    .ill 0x13 .slo .indirectY 8,
    .ill 0x14 .nop .zeropageX 4,
    .plain 0x15 .ora .zeropageX 4,
    .plain 0x16 .asl .zeropageX 6,
    .ill 0x17 .slo .zeropageX 6,
    .plain 0x18 .clc .implied 2,
    .cross 0x19 .ora .absoluteY 4,
    .ill 0x1A .nop .implied 2,
    .ill 0x1B .slo .absoluteY 7,
    .illCross 0x1C .nop .absoluteX 4,
    .cross 0x1D .ora .absoluteX 4,
    .plain 0x1E .asl .absoluteX 7,
    .ill 0x1F .slo .absoluteX 7 ]

/-- Rows 0x20 to 0x2F of R72. -/
def opcodes2 : List Descriptor :=
  [ .plain 0x20 .jsr .absolute 6,
    .plain 0x21 .and .indirectX 6,
    .ill 0x22 .jam .implied 2,
    .ill 0x23 .rla .indirectX 8,
    .plain 0x24 .bit .zeropage 3,
    .plain 0x25 .and .zeropage 3,
    .plain 0x26 .rol .zeropage 5,
    .ill 0x27 .rla .zeropage 5,
    .plain 0x28 .plp .implied 4,
    .plain 0x29 .and .immediate 2,
    .plain 0x2A .rol .implied 2,
    .ill 0x2B .anc .immediate 2,
    .plain 0x2C .bit .absolute 4,
    .plain 0x2D .and .absolute 4,
    .plain 0x2E .rol .absolute 6,
    .ill 0x2F .rla .absolute 6 ]

/-- Rows 0x30 to 0x3F of R72. -/
def opcodes3 : List Descriptor :=
  [ .plain 0x30 .bmi .relative 2,
    .cross 0x31 .and .indirectY 5,
    .ill 0x32 .jam .implied 2,
    .ill 0x33 .rla .indirectY 8,
    .ill 0x34 .nop .zeropageX 4,
    .plain 0x35 .and .zeropageX 4,
    .plain 0x36 .rol .zeropageX 6,
    .ill 0x37 .rla .zeropageX 6,
    .plain 0x38 .sec .implied 2,
    .cross 0x39 .and .absoluteY 4,
    .ill 0x3A .nop .implied 2,
    .ill 0x3B .rla .absoluteY 7,
    .illCross 0x3C .nop .absoluteX 4,
    .cross 0x3D .and .absoluteX 4,
    .plain 0x3E .rol .absoluteX 7,
    .ill 0x3F .rla .absoluteX 7 ]

/-- Rows 0x40 to 0x4F of R72. -/
def opcodes4 : List Descriptor :=
  [ .plain 0x40 .rti .implied 6,
    .plain 0x41 .eor .indirectX 6,
    .ill 0x42 .jam .implied 2,
    .ill 0x43 .sre .indirectX 8,
    .ill 0x44 .nop .zeropage 3,
    .plain 0x45 .eor .zeropage 3,
    .plain 0x46 .lsr .zeropage 5,
    .ill 0x47 .sre .zeropage 5,
    .plain 0x48 .pha .implied 3,
    .plain 0x49 .eor .immediate 2,
    .plain 0x4A .lsr .implied 2,
    .ill 0x4B .alr .immediate 2,
    .plain 0x4C .jmp .absolute 3,
    .plain 0x4D .eor .absolute 4,
    .plain 0x4E .lsr .absolute 6,
    .ill 0x4F .sre .absolute 6 ]

/-- Rows 0x50 to 0x5F of R72. -/
def opcodes5 : List Descriptor :=
  [ .plain 0x50 .bvc .relative 2,
    .cross 0x51 .eor .indirectY 5,
    .ill 0x52 .jam .implied 2,
    .ill 0x53 .sre .indirectY 8,
    .ill 0x54 .nop .zeropageX 4,
    .plain 0x55 .eor .zeropageX 4,
    .plain 0x56 .lsr .zeropageX 6,
    .ill 0x57 .sre .zeropageX 6,
    .plain 0x58 .cli .implied 2,
    .cross 0x59 .eor .absoluteY 4,
    .ill 0x5A .nop .implied 2,
    .ill 0x5B .sre .absoluteY 7,
    .illCross 0x5C .nop .absoluteX 4,
    .cross 0x5D .eor .absoluteX 4,
    .plain 0x5E .lsr .absoluteX 7,
    .ill 0x5F .sre .absoluteX 7 ]

/-- Rows 0x60 to 0x6F of R72. -/
def opcodes6 : List Descriptor :=
  [ .plain 0x60 .rts .implied 6,
    .plain 0x61 .adc .indirectX 6,
    .ill 0x62 .jam .implied 2,
    .ill 0x63 .rra .indirectX 8,
    .ill 0x64 .nop .zeropage 3,
    .plain 0x65 .adc .zeropage 3,
    .plain 0x66 .ror .zeropage 5,
    .ill 0x67 .rra .zeropage 5,
    .plain 0x68 .pla .implied 4,
    .plain 0x69 .adc .immediate 2,
    .plain 0x6A .ror .implied 2,
    .ill 0x6B .arr .immediate 2,
    .plain 0x6C .jmp .indirect 5,
    .plain 0x6D .adc .absolute 4,
    .plain 0x6E .ror .absolute 6,
    .ill 0x6F .rra .absolute 6 ]

/-- Rows 0x70 to 0x7F of R72. -/
def opcodes7 : List Descriptor :=
  [ .plain 0x70 .bvs .relative 2,
    .cross 0x71 .adc .indirectY 5,
    .ill 0x72 .jam .implied 2,
    .ill 0x73 .rra .indirectY 8,
    .ill 0x74 .nop .zeropageX 4,
    .plain 0x75 .adc .zeropageX 4,
    .plain 0x76 .ror .zeropageX 6,
    .ill 0x77 .rra .zeropageX 6,
    .plain 0x78 .sei .implied 2,
    .cross 0x79 .adc .absoluteY 4,
    .ill 0x7A .nop .implied 2,
    .ill 0x7B .rra .absoluteY 7,
    .illCross 0x7C .nop .absoluteX 4,
    .cross 0x7D .adc .absoluteX 4,
    .plain 0x7E .ror .absoluteX 7,
    .ill 0x7F .rra .absoluteX 7 ]

/-- Rows 0x80 to 0x8F of R72. -/
def opcodes8 : List Descriptor :=
  [ .ill 0x80 .nop .immediate 2,
    .plain 0x81 .sta .indirectX 6,
    .ill 0x82 .nop .immediate 2,
    .ill 0x83 .sax .indirectX 6,
    .plain 0x84 .sty .zeropage 3,
    .plain 0x85 .sta .zeropage 3,
    .plain 0x86 .stx .zeropage 3,
    .ill 0x87 .sax .zeropage 3,
    .plain 0x88 .dey .implied 2,
    .ill 0x89 .nop .immediate 2,
    .plain 0x8A .txa .implied 2,
    .illHighly 0x8B .ane .immediate 2,
    .plain 0x8C .sty .absolute 4,
    .plain 0x8D .sta .absolute 4,
    .plain 0x8E .stx .absolute 4,
    .ill 0x8F .sax .absolute 4 ]

/-- Rows 0x90 to 0x9F of R72. -/
def opcodes9 : List Descriptor :=
  [ .plain 0x90 .bcc .relative 2,
    .plain 0x91 .sta .indirectY 6,
    .ill 0x92 .jam .implied 2,
    .illUnstable 0x93 .sha .indirectY 6,
    .plain 0x94 .sty .zeropageX 4,
    .plain 0x95 .sta .zeropageX 4,
    .plain 0x96 .stx .zeropageY 4,
    .ill 0x97 .sax .zeropageY 4,
    .plain 0x98 .tya .implied 2,
    .plain 0x99 .sta .absoluteY 5,
    .plain 0x9A .txs .implied 2,
    .illUnstable 0x9B .tas .absoluteY 5,
    .illUnstable 0x9C .shy .absoluteX 5,
    .plain 0x9D .sta .absoluteX 5,
    .illUnstable 0x9E .shx .absoluteY 5,
    .illUnstable 0x9F .sha .absoluteY 5 ]

/-- Rows 0xA0 to 0xAF of R72. -/
def opcodesA : List Descriptor :=
  [ .plain 0xA0 .ldy .immediate 2,
    .plain 0xA1 .lda .indirectX 6,
    .plain 0xA2 .ldx .immediate 2,
    .ill 0xA3 .lax .indirectX 6,
    .plain 0xA4 .ldy .zeropage 3,
    .plain 0xA5 .lda .zeropage 3,
    .plain 0xA6 .ldx .zeropage 3,
    .ill 0xA7 .lax .zeropage 3,
    .plain 0xA8 .tay .implied 2,
    .plain 0xA9 .lda .immediate 2,
    .plain 0xAA .tax .implied 2,
    .illHighly 0xAB .lxa .immediate 2,
    .plain 0xAC .ldy .absolute 4,
    .plain 0xAD .lda .absolute 4,
    .plain 0xAE .ldx .absolute 4,
    .ill 0xAF .lax .absolute 4 ]

/-- Rows 0xB0 to 0xBF of R72. -/
def opcodesB : List Descriptor :=
  [ .plain 0xB0 .bcs .relative 2,
    .cross 0xB1 .lda .indirectY 5,
    .ill 0xB2 .jam .implied 2,
    .illCross 0xB3 .lax .indirectY 5,
    .plain 0xB4 .ldy .zeropageX 4,
    .plain 0xB5 .lda .zeropageX 4,
    .plain 0xB6 .ldx .zeropageY 4,
    .ill 0xB7 .lax .zeropageY 4,
    .plain 0xB8 .clv .implied 2,
    .cross 0xB9 .lda .absoluteY 4,
    .plain 0xBA .tsx .implied 2,
    .illCross 0xBB .las .absoluteY 4,
    .cross 0xBC .ldy .absoluteX 4,
    .cross 0xBD .lda .absoluteX 4,
    .cross 0xBE .ldx .absoluteY 4,
    .illCross 0xBF .lax .absoluteY 4 ]

/-- Rows 0xC0 to 0xCF of R72. -/
def opcodesC : List Descriptor :=
  [ .plain 0xC0 .cpy .immediate 2,
    .plain 0xC1 .cmp .indirectX 6,
    .ill 0xC2 .nop .immediate 2,
    .ill 0xC3 .dcp .indirectX 8,
    .plain 0xC4 .cpy .zeropage 3,
    .plain 0xC5 .cmp .zeropage 3,
    .plain 0xC6 .dec .zeropage 5,
    .ill 0xC7 .dcp .zeropage 5,
    .plain 0xC8 .iny .implied 2,
    .plain 0xC9 .cmp .immediate 2,
    .plain 0xCA .dex .implied 2,
    .ill 0xCB .sbx .immediate 2,
    .plain 0xCC .cpy .absolute 4,
    .plain 0xCD .cmp .absolute 4,
    .plain 0xCE .dec .absolute 6,
    .ill 0xCF .dcp .absolute 6 ]

/-- Rows 0xD0 to 0xDF of R72. -/
def opcodesD : List Descriptor :=
  [ .plain 0xD0 .bne .relative 2,
    .cross 0xD1 .cmp .indirectY 5,
    .ill 0xD2 .jam .implied 2,
    .ill 0xD3 .dcp .indirectY 8,
    .ill 0xD4 .nop .zeropageX 4,
    .plain 0xD5 .cmp .zeropageX 4,
    .plain 0xD6 .dec .zeropageX 6,
    .ill 0xD7 .dcp .zeropageX 6,
    .plain 0xD8 .cld .implied 2,
    .cross 0xD9 .cmp .absoluteY 4,
    .ill 0xDA .nop .implied 2,
    .ill 0xDB .dcp .absoluteY 7,
    .illCross 0xDC .nop .absoluteX 4,
    .cross 0xDD .cmp .absoluteX 4,
    .plain 0xDE .dec .absoluteX 7,
    .ill 0xDF .dcp .absoluteX 7 ]

/-- Rows 0xE0 to 0xEF of R72. -/
def opcodesE : List Descriptor :=
  [ .plain 0xE0 .cpx .immediate 2,
    .plain 0xE1 .sbc .indirectX 6,
    .ill 0xE2 .nop .immediate 2,
    .ill 0xE3 .isb .indirectX 8,
    .plain 0xE4 .cpx .zeropage 3,
    .plain 0xE5 .sbc .zeropage 3,
    .plain 0xE6 .inc .zeropage 5,
    .ill 0xE7 .isb .zeropage 5,
    .plain 0xE8 .inx .implied 2,
    .plain 0xE9 .sbc .immediate 2,
    .plain 0xEA .nop .implied 2,
    .ill 0xEB .usbc .immediate 2,
    .plain 0xEC .cpx .absolute 4,
    .plain 0xED .sbc .absolute 4,
    .plain 0xEE .inc .absolute 6,
    .ill 0xEF .isb .absolute 6 ]

/-- Rows 0xF0 to 0xFF of R72. -/
def opcodesF : List Descriptor :=
  [ .plain 0xF0 .beq .relative 2,
    .cross 0xF1 .sbc .indirectY 5,
    .ill 0xF2 .jam .implied 2,
    .ill 0xF3 .isb .indirectY 8,
    .ill 0xF4 .nop .zeropageX 4,
    .plain 0xF5 .sbc .zeropageX 4,
    .plain 0xF6 .inc .zeropageX 6,
    .ill 0xF7 .isb .zeropageX 6,
    .plain 0xF8 .sed .implied 2,
    .cross 0xF9 .sbc .absoluteY 4,
    .ill 0xFA .nop .implied 2,
    .ill 0xFB .isb .absoluteY 7,
    .illCross 0xFC .nop .absoluteX 4,
    .cross 0xFD .sbc .absoluteX 4,
    .plain 0xFE .inc .absoluteX 7,
    .ill 0xFF .isb .absoluteX 7 ]

/-- The opcode table: 256 descriptors, indexed by the opcode byte (R67). -/
def opcodes : List Descriptor :=
  opcodes0 ++ opcodes1 ++ opcodes2 ++ opcodes3 ++ opcodes4 ++ opcodes5 ++ opcodes6 ++ opcodes7
    ++ opcodes8 ++ opcodes9 ++ opcodesA ++ opcodesB ++ opcodesC ++ opcodesD ++ opcodesE ++ opcodesF

/-- The table by the opcode's high digit. -/
def opcodeRows : List (List Descriptor) :=
  [opcodes0, opcodes1, opcodes2, opcodes3, opcodes4, opcodes5, opcodes6, opcodes7,
    opcodes8, opcodes9, opcodesA, opcodesB, opcodesC, opcodesD, opcodesE, opcodesF]

/-- `OPC[op]` (R68): the row of the high digit, then the column of the low digit. -/
def descriptorAt (op : Byte) : Option Descriptor :=
  match opcodeRows[op.toNat / 16]? with
  | none => none
  | some row => row[op.toNat % 16]?

/-- What the decoder does after an opcode byte: the instruction is complete, or takes one operand byte, two bytes
of a little-endian address, or a signed offset byte (R64, R66). -/
inductive DecodeEntry where
  | implied (i : Instr)
  | byte (f : Byte → Instr)
  | word (f : Word → Instr)
  | offset (f : Int → Instr)

/-- Opcodes 0x00 to 0x0F. -/
def decodeRow0 : List DecodeEntry :=
  [ .implied .brk, .byte .oraIzx, .implied .jam02, .byte .sloIzx,
    .byte .nopZp04, .byte .oraZp, .byte .aslZp, .byte .sloZp,
    .implied .php, .byte .oraImm, .implied .aslImp, .byte .ancImm0B,
    .word .nopAbs, .word .oraAbs, .word .aslAbs, .word .sloAbs ]

/-- Opcodes 0x10 to 0x1F. -/
def decodeRow1 : List DecodeEntry :=
  [ .offset .bpl, .byte .oraIzy, .implied .jam12, .byte .sloIzy,
    .byte .nopZpx14, .byte .oraZpx, .byte .aslZpx, .byte .sloZpx,
    .implied .clc, .word .oraAby, .implied .nopImp1A, .word .sloAby,
    .word .nopAbx1C, .word .oraAbx, .word .aslAbx, .word .sloAbx ]

/-- Opcodes 0x20 to 0x2F. -/
def decodeRow2 : List DecodeEntry :=
  [ .word .jsr, .byte .andIzx, .implied .jam22, .byte .rlaIzx,
    .byte .bitZp, .byte .andZp, .byte .rolZp, .byte .rlaZp,
    .implied .plp, .byte .andImm, .implied .rolImp, .byte .ancImm2B,
    .word .bitAbs, .word .andAbs, .word .rolAbs, .word .rlaAbs ]

/-- Opcodes 0x30 to 0x3F. -/
def decodeRow3 : List DecodeEntry :=
  [ .offset .bmi, .byte .andIzy, .implied .jam32, .byte .rlaIzy,
    .byte .nopZpx34, .byte .andZpx, .byte .rolZpx, .byte .rlaZpx,
    .implied .sec, .word .andAby, .implied .nopImp3A, .word .rlaAby,
    .word .nopAbx3C, .word .andAbx, .word .rolAbx, .word .rlaAbx ]

/-- Opcodes 0x40 to 0x4F. -/
def decodeRow4 : List DecodeEntry :=
  [ .implied .rti, .byte .eorIzx, .implied .jam42, .byte .sreIzx,
    .byte .nopZp44, .byte .eorZp, .byte .lsrZp, .byte .sreZp,
    .implied .pha, .byte .eorImm, .implied .lsrImp, .byte .alr,
    .word .jmpAbs, .word .eorAbs, .word .lsrAbs, .word .sreAbs ]

/-- Opcodes 0x50 to 0x5F. -/
def decodeRow5 : List DecodeEntry :=
  [ .offset .bvc, .byte .eorIzy, .implied .jam52, .byte .sreIzy,
    .byte .nopZpx54, .byte .eorZpx, .byte .lsrZpx, .byte .sreZpx,
    .implied .cli, .word .eorAby, .implied .nopImp5A, .word .sreAby,
    .word .nopAbx5C, .word .eorAbx, .word .lsrAbx, .word .sreAbx ]

/-- Opcodes 0x60 to 0x6F. -/
def decodeRow6 : List DecodeEntry :=
  [ .implied .rts, .byte .adcIzx, .implied .jam62, .byte .rraIzx,
    .byte .nopZp64, .byte .adcZp, .byte .rorZp, .byte .rraZp,
    .implied .pla, .byte .adcImm, .implied .rorImp, .byte .arr,
    .word .jmpInd, .word .adcAbs, .word .rorAbs, .word .rraAbs ]

/-- Opcodes 0x70 to 0x7F. -/
def decodeRow7 : List DecodeEntry :=
  [ .offset .bvs, .byte .adcIzy, .implied .jam72, .byte .rraIzy,
    .byte .nopZpx74, .byte .adcZpx, .byte .rorZpx, .byte .rraZpx,
    .implied .sei, .word .adcAby, .implied .nopImp7A, .word .rraAby,
    .word .nopAbx7C, .word .adcAbx, .word .rorAbx, .word .rraAbx ]

/-- Opcodes 0x80 to 0x8F. -/
def decodeRow8 : List DecodeEntry :=
  [ .byte .nopImm80, .byte .staIzx, .byte .nopImm82, .byte .saxIzx,
    .byte .styZp, .byte .staZp, .byte .stxZp, .byte .saxZp,
    .implied .dey, .byte .nopImm89, .implied .txa, .byte .ane,
    .word .styAbs, .word .staAbs, .word .stxAbs, .word .saxAbs ]

/-- Opcodes 0x90 to 0x9F. -/
def decodeRow9 : List DecodeEntry :=
  [ .offset .bcc, .byte .staIzy, .implied .jam92, .byte .shaIzy,
    .byte .styZpx, .byte .staZpx, .byte .stxZpy, .byte .saxZpy,
    .implied .tya, .word .staAby, .implied .txs, .word .tas,
    .word .shy, .word .staAbx, .word .shx, .word .shaAby ]

/-- Opcodes 0xA0 to 0xAF. -/
def decodeRowA : List DecodeEntry :=
  [ .byte .ldyImm, .byte .ldaIzx, .byte .ldxImm, .byte .laxIzx,
    .byte .ldyZp, .byte .ldaZp, .byte .ldxZp, .byte .laxZp,
    .implied .tay, .byte .ldaImm, .implied .tax, .byte .lxa,
    .word .ldyAbs, .word .ldaAbs, .word .ldxAbs, .word .laxAbs ]

/-- Opcodes 0xB0 to 0xBF. -/
def decodeRowB : List DecodeEntry :=
  [ .offset .bcs, .byte .ldaIzy, .implied .jamB2, .byte .laxIzy,
    .byte .ldyZpx, .byte .ldaZpx, .byte .ldxZpy, .byte .laxZpy,
    .implied .clv, .word .ldaAby, .implied .tsx, .word .las,
    .word .ldyAbx, .word .ldaAbx, .word .ldxAby, .word .laxAby ]

/-- Opcodes 0xC0 to 0xCF. -/
def decodeRowC : List DecodeEntry :=
  [ .byte .cpyImm, .byte .cmpIzx, .byte .nopImmC2, .byte .dcpIzx,
    .byte .cpyZp, .byte .cmpZp, .byte .decZp, .byte .dcpZp,
    .implied .iny, .byte .cmpImm, .implied .dex, .byte .sbx,
    .word .cpyAbs, .word .cmpAbs, .word .decAbs, .word .dcpAbs ]

/-- Opcodes 0xD0 to 0xDF. -/
def decodeRowD : List DecodeEntry :=
  [ .offset .bne, .byte .cmpIzy, .implied .jamD2, .byte .dcpIzy,
    .byte .nopZpxD4, .byte .cmpZpx, .byte .decZpx, .byte .dcpZpx,
    .implied .cld, .word .cmpAby, .implied .nopImpDA, .word .dcpAby,
    .word .nopAbxDC, .word .cmpAbx, .word .decAbx, .word .dcpAbx ]

/-- Opcodes 0xE0 to 0xEF. -/
def decodeRowE : List DecodeEntry :=
  [ .byte .cpxImm, .byte .sbcIzx, .byte .nopImmE2, .byte .isbIzx,
    .byte .cpxZp, .byte .sbcZp, .byte .incZp, .byte .isbZp,
    .implied .inx, .byte .sbcImm, .implied .nop, .byte .usbc,
    .word .cpxAbs, .word .sbcAbs, .word .incAbs, .word .isbAbs ]

/-- Opcodes 0xF0 to 0xFF. -/
def decodeRowF : List DecodeEntry :=
  [ .offset .beq, .byte .sbcIzy, .implied .jamF2, .byte .isbIzy,
    .byte .nopZpxF4, .byte .sbcZpx, .byte .incZpx, .byte .isbZpx,
    .implied .sed, .word .sbcAby, .implied .nopImpFA, .word .isbAby,
    .word .nopAbxFC, .word .sbcAbx, .word .incAbx, .word .isbAbx ]

def decodeRows : List (List DecodeEntry) :=
  [decodeRow0, decodeRow1, decodeRow2, decodeRow3, decodeRow4, decodeRow5, decodeRow6, decodeRow7,
    decodeRow8, decodeRow9, decodeRowA, decodeRowB, decodeRowC, decodeRowD, decodeRowE, decodeRowF]

/-- The decoder's entry for an opcode byte: the row of the high digit, then the column of the low digit. -/
def decodeEntryAt (op : Byte) : Option DecodeEntry :=
  match decodeRows[op.toNat / 16]? with
  | none => none
  | some row => row[op.toNat % 16]?

/-- Why bytes are no instruction: fewer bytes than the opcode's length, or an opcode byte without a row, which R198
calls unreachable. -/
inductive DecodeError where
  | truncated
  | unimplementedOpcode (op : Byte)
  deriving DecidableEq, Repr

/-- The operand bytes of an entry, in fetch order (R64, R66). -/
def DecodeEntry.finish : DecodeEntry → List Byte → Except DecodeError (Instr × List Byte)
  | .implied i, rest => .ok (i, rest)
  | .byte f, b1 :: rest => .ok (f b1, rest)
  | .word f, b1 :: b2 :: rest => .ok (f (w16 b2 b1), rest)
  | .offset f, b1 :: rest => .ok (f (sext8 b1), rest)
  | _, _ => .error .truncated

/-- The instruction at the head of the bytes, and the bytes after it (R68). -/
def decode : List Byte → Except DecodeError (Instr × List Byte)
  | [] => .error .truncated
  | op :: rest =>
    match decodeEntryAt op with
    | none => .error (.unimplementedOpcode op)
    | some e => e.finish rest

/-- The three bytes of a word that numbers the first byte's bits 7 to 0, the second's 15 to 8 and the third's
23 to 16. -/
def tableBytes (w : Nat) : List Byte :=
  [BitVec.ofNat 8 w, BitVec.ofNat 8 (w / 0x100), BitVec.ofNat 8 (w / 0x10000)]

/-- The host's probe: the instruction the decoder reads from the low `nbits` bits of `w`, the bits above being 0. -/
def decodeTableWord (nbits w : Nat) : Option Instr :=
  match decode (tableBytes (w % 2 ^ nbits)) with
  | .ok r => some r.1
  | .error _ => none

/-- An instruction's operand as its addressing mode gives it (R66). Implied instructions have none. -/
inductive Operand where
  | immediate (b : Byte)
  | zeropage (b : Byte)
  | zeropageX (b : Byte)
  | zeropageY (b : Byte)
  | absolute (w : Word)
  | absoluteX (w : Word)
  | absoluteY (w : Word)
  | relative (off : Int)
  | indirect (w : Word)
  | indirectX (b : Byte)
  | indirectY (b : Byte)
  deriving DecidableEq, Repr

def Operand.mode : Operand → Mode
  | .immediate _ => .immediate
  | .zeropage _ => .zeropage
  | .zeropageX _ => .zeropageX
  | .zeropageY _ => .zeropageY
  | .absolute _ => .absolute
  | .absoluteX _ => .absoluteX
  | .absoluteY _ => .absoluteY
  | .relative _ => .relative
  | .indirect _ => .indirect
  | .indirectX _ => .indirectX
  | .indirectY _ => .indirectY

/-- The bytes that hold an operand: one byte, or an address low byte first (R39, R64). -/
def Operand.bytes : Operand → List Byte
  | .immediate b | .zeropage b | .zeropageX b | .zeropageY b | .indirectX b | .indirectY b => [b]
  | .absolute w | .absoluteX w | .absoluteY w | .indirect w => [lo8 w, hi8 w]
  | .relative off => [BitVec.ofInt 8 off]

/-- The opcode byte of an instruction (R72). -/
def Instr.opcode : Instr → Byte
  | .brk => 0x00
  | .oraIzx _ => 0x01
  | .jam02 => 0x02
  | .sloIzx _ => 0x03
  | .nopZp04 _ => 0x04
  | .oraZp _ => 0x05
  | .aslZp _ => 0x06
  | .sloZp _ => 0x07
  | .php => 0x08
  | .oraImm _ => 0x09
  | .aslImp => 0x0A
  | .ancImm0B _ => 0x0B
  | .nopAbs _ => 0x0C
  | .oraAbs _ => 0x0D
  | .aslAbs _ => 0x0E
  | .sloAbs _ => 0x0F
  | .bpl _ => 0x10
  | .oraIzy _ => 0x11
  | .jam12 => 0x12
  | .sloIzy _ => 0x13
  | .nopZpx14 _ => 0x14
  | .oraZpx _ => 0x15
  | .aslZpx _ => 0x16
  | .sloZpx _ => 0x17
  | .clc => 0x18
  | .oraAby _ => 0x19
  | .nopImp1A => 0x1A
  | .sloAby _ => 0x1B
  | .nopAbx1C _ => 0x1C
  | .oraAbx _ => 0x1D
  | .aslAbx _ => 0x1E
  | .sloAbx _ => 0x1F
  | .jsr _ => 0x20
  | .andIzx _ => 0x21
  | .jam22 => 0x22
  | .rlaIzx _ => 0x23
  | .bitZp _ => 0x24
  | .andZp _ => 0x25
  | .rolZp _ => 0x26
  | .rlaZp _ => 0x27
  | .plp => 0x28
  | .andImm _ => 0x29
  | .rolImp => 0x2A
  | .ancImm2B _ => 0x2B
  | .bitAbs _ => 0x2C
  | .andAbs _ => 0x2D
  | .rolAbs _ => 0x2E
  | .rlaAbs _ => 0x2F
  | .bmi _ => 0x30
  | .andIzy _ => 0x31
  | .jam32 => 0x32
  | .rlaIzy _ => 0x33
  | .nopZpx34 _ => 0x34
  | .andZpx _ => 0x35
  | .rolZpx _ => 0x36
  | .rlaZpx _ => 0x37
  | .sec => 0x38
  | .andAby _ => 0x39
  | .nopImp3A => 0x3A
  | .rlaAby _ => 0x3B
  | .nopAbx3C _ => 0x3C
  | .andAbx _ => 0x3D
  | .rolAbx _ => 0x3E
  | .rlaAbx _ => 0x3F
  | .rti => 0x40
  | .eorIzx _ => 0x41
  | .jam42 => 0x42
  | .sreIzx _ => 0x43
  | .nopZp44 _ => 0x44
  | .eorZp _ => 0x45
  | .lsrZp _ => 0x46
  | .sreZp _ => 0x47
  | .pha => 0x48
  | .eorImm _ => 0x49
  | .lsrImp => 0x4A
  | .alr _ => 0x4B
  | .jmpAbs _ => 0x4C
  | .eorAbs _ => 0x4D
  | .lsrAbs _ => 0x4E
  | .sreAbs _ => 0x4F
  | .bvc _ => 0x50
  | .eorIzy _ => 0x51
  | .jam52 => 0x52
  | .sreIzy _ => 0x53
  | .nopZpx54 _ => 0x54
  | .eorZpx _ => 0x55
  | .lsrZpx _ => 0x56
  | .sreZpx _ => 0x57
  | .cli => 0x58
  | .eorAby _ => 0x59
  | .nopImp5A => 0x5A
  | .sreAby _ => 0x5B
  | .nopAbx5C _ => 0x5C
  | .eorAbx _ => 0x5D
  | .lsrAbx _ => 0x5E
  | .sreAbx _ => 0x5F
  | .rts => 0x60
  | .adcIzx _ => 0x61
  | .jam62 => 0x62
  | .rraIzx _ => 0x63
  | .nopZp64 _ => 0x64
  | .adcZp _ => 0x65
  | .rorZp _ => 0x66
  | .rraZp _ => 0x67
  | .pla => 0x68
  | .adcImm _ => 0x69
  | .rorImp => 0x6A
  | .arr _ => 0x6B
  | .jmpInd _ => 0x6C
  | .adcAbs _ => 0x6D
  | .rorAbs _ => 0x6E
  | .rraAbs _ => 0x6F
  | .bvs _ => 0x70
  | .adcIzy _ => 0x71
  | .jam72 => 0x72
  | .rraIzy _ => 0x73
  | .nopZpx74 _ => 0x74
  | .adcZpx _ => 0x75
  | .rorZpx _ => 0x76
  | .rraZpx _ => 0x77
  | .sei => 0x78
  | .adcAby _ => 0x79
  | .nopImp7A => 0x7A
  | .rraAby _ => 0x7B
  | .nopAbx7C _ => 0x7C
  | .adcAbx _ => 0x7D
  | .rorAbx _ => 0x7E
  | .rraAbx _ => 0x7F
  | .nopImm80 _ => 0x80
  | .staIzx _ => 0x81
  | .nopImm82 _ => 0x82
  | .saxIzx _ => 0x83
  | .styZp _ => 0x84
  | .staZp _ => 0x85
  | .stxZp _ => 0x86
  | .saxZp _ => 0x87
  | .dey => 0x88
  | .nopImm89 _ => 0x89
  | .txa => 0x8A
  | .ane _ => 0x8B
  | .styAbs _ => 0x8C
  | .staAbs _ => 0x8D
  | .stxAbs _ => 0x8E
  | .saxAbs _ => 0x8F
  | .bcc _ => 0x90
  | .staIzy _ => 0x91
  | .jam92 => 0x92
  | .shaIzy _ => 0x93
  | .styZpx _ => 0x94
  | .staZpx _ => 0x95
  | .stxZpy _ => 0x96
  | .saxZpy _ => 0x97
  | .tya => 0x98
  | .staAby _ => 0x99
  | .txs => 0x9A
  | .tas _ => 0x9B
  | .shy _ => 0x9C
  | .staAbx _ => 0x9D
  | .shx _ => 0x9E
  | .shaAby _ => 0x9F
  | .ldyImm _ => 0xA0
  | .ldaIzx _ => 0xA1
  | .ldxImm _ => 0xA2
  | .laxIzx _ => 0xA3
  | .ldyZp _ => 0xA4
  | .ldaZp _ => 0xA5
  | .ldxZp _ => 0xA6
  | .laxZp _ => 0xA7
  | .tay => 0xA8
  | .ldaImm _ => 0xA9
  | .tax => 0xAA
  | .lxa _ => 0xAB
  | .ldyAbs _ => 0xAC
  | .ldaAbs _ => 0xAD
  | .ldxAbs _ => 0xAE
  | .laxAbs _ => 0xAF
  | .bcs _ => 0xB0
  | .ldaIzy _ => 0xB1
  | .jamB2 => 0xB2
  | .laxIzy _ => 0xB3
  | .ldyZpx _ => 0xB4
  | .ldaZpx _ => 0xB5
  | .ldxZpy _ => 0xB6
  | .laxZpy _ => 0xB7
  | .clv => 0xB8
  | .ldaAby _ => 0xB9
  | .tsx => 0xBA
  | .las _ => 0xBB
  | .ldyAbx _ => 0xBC
  | .ldaAbx _ => 0xBD
  | .ldxAby _ => 0xBE
  | .laxAby _ => 0xBF
  | .cpyImm _ => 0xC0
  | .cmpIzx _ => 0xC1
  | .nopImmC2 _ => 0xC2
  | .dcpIzx _ => 0xC3
  | .cpyZp _ => 0xC4
  | .cmpZp _ => 0xC5
  | .decZp _ => 0xC6
  | .dcpZp _ => 0xC7
  | .iny => 0xC8
  | .cmpImm _ => 0xC9
  | .dex => 0xCA
  | .sbx _ => 0xCB
  | .cpyAbs _ => 0xCC
  | .cmpAbs _ => 0xCD
  | .decAbs _ => 0xCE
  | .dcpAbs _ => 0xCF
  | .bne _ => 0xD0
  | .cmpIzy _ => 0xD1
  | .jamD2 => 0xD2
  | .dcpIzy _ => 0xD3
  | .nopZpxD4 _ => 0xD4
  | .cmpZpx _ => 0xD5
  | .decZpx _ => 0xD6
  | .dcpZpx _ => 0xD7
  | .cld => 0xD8
  | .cmpAby _ => 0xD9
  | .nopImpDA => 0xDA
  | .dcpAby _ => 0xDB
  | .nopAbxDC _ => 0xDC
  | .cmpAbx _ => 0xDD
  | .decAbx _ => 0xDE
  | .dcpAbx _ => 0xDF
  | .cpxImm _ => 0xE0
  | .sbcIzx _ => 0xE1
  | .nopImmE2 _ => 0xE2
  | .isbIzx _ => 0xE3
  | .cpxZp _ => 0xE4
  | .sbcZp _ => 0xE5
  | .incZp _ => 0xE6
  | .isbZp _ => 0xE7
  | .inx => 0xE8
  | .sbcImm _ => 0xE9
  | .nop => 0xEA
  | .usbc _ => 0xEB
  | .cpxAbs _ => 0xEC
  | .sbcAbs _ => 0xED
  | .incAbs _ => 0xEE
  | .isbAbs _ => 0xEF
  | .beq _ => 0xF0
  | .sbcIzy _ => 0xF1
  | .jamF2 => 0xF2
  | .isbIzy _ => 0xF3
  | .nopZpxF4 _ => 0xF4
  | .sbcZpx _ => 0xF5
  | .incZpx _ => 0xF6
  | .isbZpx _ => 0xF7
  | .sed => 0xF8
  | .sbcAby _ => 0xF9
  | .nopImpFA => 0xFA
  | .isbAby _ => 0xFB
  | .nopAbxFC _ => 0xFC
  | .sbcAbx _ => 0xFD
  | .incAbx _ => 0xFE
  | .isbAbx _ => 0xFF

/-- The operand of an instruction, in its addressing mode (R72). -/
def Instr.operand : Instr → Option Operand
  | .brk => none
  | .oraIzx b => some (.indirectX b)
  | .jam02 => none
  | .sloIzx b => some (.indirectX b)
  | .nopZp04 b => some (.zeropage b)
  | .oraZp b => some (.zeropage b)
  | .aslZp b => some (.zeropage b)
  | .sloZp b => some (.zeropage b)
  | .php => none
  | .oraImm b => some (.immediate b)
  | .aslImp => none
  | .ancImm0B b => some (.immediate b)
  | .nopAbs w => some (.absolute w)
  | .oraAbs w => some (.absolute w)
  | .aslAbs w => some (.absolute w)
  | .sloAbs w => some (.absolute w)
  | .bpl off => some (.relative off)
  | .oraIzy b => some (.indirectY b)
  | .jam12 => none
  | .sloIzy b => some (.indirectY b)
  | .nopZpx14 b => some (.zeropageX b)
  | .oraZpx b => some (.zeropageX b)
  | .aslZpx b => some (.zeropageX b)
  | .sloZpx b => some (.zeropageX b)
  | .clc => none
  | .oraAby w => some (.absoluteY w)
  | .nopImp1A => none
  | .sloAby w => some (.absoluteY w)
  | .nopAbx1C w => some (.absoluteX w)
  | .oraAbx w => some (.absoluteX w)
  | .aslAbx w => some (.absoluteX w)
  | .sloAbx w => some (.absoluteX w)
  | .jsr w => some (.absolute w)
  | .andIzx b => some (.indirectX b)
  | .jam22 => none
  | .rlaIzx b => some (.indirectX b)
  | .bitZp b => some (.zeropage b)
  | .andZp b => some (.zeropage b)
  | .rolZp b => some (.zeropage b)
  | .rlaZp b => some (.zeropage b)
  | .plp => none
  | .andImm b => some (.immediate b)
  | .rolImp => none
  | .ancImm2B b => some (.immediate b)
  | .bitAbs w => some (.absolute w)
  | .andAbs w => some (.absolute w)
  | .rolAbs w => some (.absolute w)
  | .rlaAbs w => some (.absolute w)
  | .bmi off => some (.relative off)
  | .andIzy b => some (.indirectY b)
  | .jam32 => none
  | .rlaIzy b => some (.indirectY b)
  | .nopZpx34 b => some (.zeropageX b)
  | .andZpx b => some (.zeropageX b)
  | .rolZpx b => some (.zeropageX b)
  | .rlaZpx b => some (.zeropageX b)
  | .sec => none
  | .andAby w => some (.absoluteY w)
  | .nopImp3A => none
  | .rlaAby w => some (.absoluteY w)
  | .nopAbx3C w => some (.absoluteX w)
  | .andAbx w => some (.absoluteX w)
  | .rolAbx w => some (.absoluteX w)
  | .rlaAbx w => some (.absoluteX w)
  | .rti => none
  | .eorIzx b => some (.indirectX b)
  | .jam42 => none
  | .sreIzx b => some (.indirectX b)
  | .nopZp44 b => some (.zeropage b)
  | .eorZp b => some (.zeropage b)
  | .lsrZp b => some (.zeropage b)
  | .sreZp b => some (.zeropage b)
  | .pha => none
  | .eorImm b => some (.immediate b)
  | .lsrImp => none
  | .alr b => some (.immediate b)
  | .jmpAbs w => some (.absolute w)
  | .eorAbs w => some (.absolute w)
  | .lsrAbs w => some (.absolute w)
  | .sreAbs w => some (.absolute w)
  | .bvc off => some (.relative off)
  | .eorIzy b => some (.indirectY b)
  | .jam52 => none
  | .sreIzy b => some (.indirectY b)
  | .nopZpx54 b => some (.zeropageX b)
  | .eorZpx b => some (.zeropageX b)
  | .lsrZpx b => some (.zeropageX b)
  | .sreZpx b => some (.zeropageX b)
  | .cli => none
  | .eorAby w => some (.absoluteY w)
  | .nopImp5A => none
  | .sreAby w => some (.absoluteY w)
  | .nopAbx5C w => some (.absoluteX w)
  | .eorAbx w => some (.absoluteX w)
  | .lsrAbx w => some (.absoluteX w)
  | .sreAbx w => some (.absoluteX w)
  | .rts => none
  | .adcIzx b => some (.indirectX b)
  | .jam62 => none
  | .rraIzx b => some (.indirectX b)
  | .nopZp64 b => some (.zeropage b)
  | .adcZp b => some (.zeropage b)
  | .rorZp b => some (.zeropage b)
  | .rraZp b => some (.zeropage b)
  | .pla => none
  | .adcImm b => some (.immediate b)
  | .rorImp => none
  | .arr b => some (.immediate b)
  | .jmpInd w => some (.indirect w)
  | .adcAbs w => some (.absolute w)
  | .rorAbs w => some (.absolute w)
  | .rraAbs w => some (.absolute w)
  | .bvs off => some (.relative off)
  | .adcIzy b => some (.indirectY b)
  | .jam72 => none
  | .rraIzy b => some (.indirectY b)
  | .nopZpx74 b => some (.zeropageX b)
  | .adcZpx b => some (.zeropageX b)
  | .rorZpx b => some (.zeropageX b)
  | .rraZpx b => some (.zeropageX b)
  | .sei => none
  | .adcAby w => some (.absoluteY w)
  | .nopImp7A => none
  | .rraAby w => some (.absoluteY w)
  | .nopAbx7C w => some (.absoluteX w)
  | .adcAbx w => some (.absoluteX w)
  | .rorAbx w => some (.absoluteX w)
  | .rraAbx w => some (.absoluteX w)
  | .nopImm80 b => some (.immediate b)
  | .staIzx b => some (.indirectX b)
  | .nopImm82 b => some (.immediate b)
  | .saxIzx b => some (.indirectX b)
  | .styZp b => some (.zeropage b)
  | .staZp b => some (.zeropage b)
  | .stxZp b => some (.zeropage b)
  | .saxZp b => some (.zeropage b)
  | .dey => none
  | .nopImm89 b => some (.immediate b)
  | .txa => none
  | .ane b => some (.immediate b)
  | .styAbs w => some (.absolute w)
  | .staAbs w => some (.absolute w)
  | .stxAbs w => some (.absolute w)
  | .saxAbs w => some (.absolute w)
  | .bcc off => some (.relative off)
  | .staIzy b => some (.indirectY b)
  | .jam92 => none
  | .shaIzy b => some (.indirectY b)
  | .styZpx b => some (.zeropageX b)
  | .staZpx b => some (.zeropageX b)
  | .stxZpy b => some (.zeropageY b)
  | .saxZpy b => some (.zeropageY b)
  | .tya => none
  | .staAby w => some (.absoluteY w)
  | .txs => none
  | .tas w => some (.absoluteY w)
  | .shy w => some (.absoluteX w)
  | .staAbx w => some (.absoluteX w)
  | .shx w => some (.absoluteY w)
  | .shaAby w => some (.absoluteY w)
  | .ldyImm b => some (.immediate b)
  | .ldaIzx b => some (.indirectX b)
  | .ldxImm b => some (.immediate b)
  | .laxIzx b => some (.indirectX b)
  | .ldyZp b => some (.zeropage b)
  | .ldaZp b => some (.zeropage b)
  | .ldxZp b => some (.zeropage b)
  | .laxZp b => some (.zeropage b)
  | .tay => none
  | .ldaImm b => some (.immediate b)
  | .tax => none
  | .lxa b => some (.immediate b)
  | .ldyAbs w => some (.absolute w)
  | .ldaAbs w => some (.absolute w)
  | .ldxAbs w => some (.absolute w)
  | .laxAbs w => some (.absolute w)
  | .bcs off => some (.relative off)
  | .ldaIzy b => some (.indirectY b)
  | .jamB2 => none
  | .laxIzy b => some (.indirectY b)
  | .ldyZpx b => some (.zeropageX b)
  | .ldaZpx b => some (.zeropageX b)
  | .ldxZpy b => some (.zeropageY b)
  | .laxZpy b => some (.zeropageY b)
  | .clv => none
  | .ldaAby w => some (.absoluteY w)
  | .tsx => none
  | .las w => some (.absoluteY w)
  | .ldyAbx w => some (.absoluteX w)
  | .ldaAbx w => some (.absoluteX w)
  | .ldxAby w => some (.absoluteY w)
  | .laxAby w => some (.absoluteY w)
  | .cpyImm b => some (.immediate b)
  | .cmpIzx b => some (.indirectX b)
  | .nopImmC2 b => some (.immediate b)
  | .dcpIzx b => some (.indirectX b)
  | .cpyZp b => some (.zeropage b)
  | .cmpZp b => some (.zeropage b)
  | .decZp b => some (.zeropage b)
  | .dcpZp b => some (.zeropage b)
  | .iny => none
  | .cmpImm b => some (.immediate b)
  | .dex => none
  | .sbx b => some (.immediate b)
  | .cpyAbs w => some (.absolute w)
  | .cmpAbs w => some (.absolute w)
  | .decAbs w => some (.absolute w)
  | .dcpAbs w => some (.absolute w)
  | .bne off => some (.relative off)
  | .cmpIzy b => some (.indirectY b)
  | .jamD2 => none
  | .dcpIzy b => some (.indirectY b)
  | .nopZpxD4 b => some (.zeropageX b)
  | .cmpZpx b => some (.zeropageX b)
  | .decZpx b => some (.zeropageX b)
  | .dcpZpx b => some (.zeropageX b)
  | .cld => none
  | .cmpAby w => some (.absoluteY w)
  | .nopImpDA => none
  | .dcpAby w => some (.absoluteY w)
  | .nopAbxDC w => some (.absoluteX w)
  | .cmpAbx w => some (.absoluteX w)
  | .decAbx w => some (.absoluteX w)
  | .dcpAbx w => some (.absoluteX w)
  | .cpxImm b => some (.immediate b)
  | .sbcIzx b => some (.indirectX b)
  | .nopImmE2 b => some (.immediate b)
  | .isbIzx b => some (.indirectX b)
  | .cpxZp b => some (.zeropage b)
  | .sbcZp b => some (.zeropage b)
  | .incZp b => some (.zeropage b)
  | .isbZp b => some (.zeropage b)
  | .inx => none
  | .sbcImm b => some (.immediate b)
  | .nop => none
  | .usbc b => some (.immediate b)
  | .cpxAbs w => some (.absolute w)
  | .sbcAbs w => some (.absolute w)
  | .incAbs w => some (.absolute w)
  | .isbAbs w => some (.absolute w)
  | .beq off => some (.relative off)
  | .sbcIzy b => some (.indirectY b)
  | .jamF2 => none
  | .isbIzy b => some (.indirectY b)
  | .nopZpxF4 b => some (.zeropageX b)
  | .sbcZpx b => some (.zeropageX b)
  | .incZpx b => some (.zeropageX b)
  | .isbZpx b => some (.zeropageX b)
  | .sed => none
  | .sbcAby w => some (.absoluteY w)
  | .nopImpFA => none
  | .isbAby w => some (.absoluteY w)
  | .nopAbxFC w => some (.absoluteX w)
  | .sbcAbx w => some (.absoluteX w)
  | .incAbx w => some (.absoluteX w)
  | .isbAbx w => some (.absoluteX w)

/-- The descriptor of an instruction. -/
def Instr.descriptor (i : Instr) : Option Descriptor := descriptorAt i.opcode

/-- The operand bytes of an instruction. -/
def Instr.operandBytes (i : Instr) : List Byte :=
  match i.operand with
  | none => []
  | some o => o.bytes

/-- The bytes of an instruction in fetch order (R64). -/
def encode (i : Instr) : List Byte := i.opcode :: i.operandBytes

end Sys2Proof
end

