-- ==== Sys2Proof/Machine/Memory.lean ====
section
/-! DEFINITION. Reading and writing a memory held as a list of its bytes other than 0x00. An address the list
does not name reads as 0x00, the value at construction of every memory of R239. -/

namespace Sys2Proof

/-- The byte at address `a`. -/
def Memory.read : Memory → Nat → Byte
  | [], _ => 0
  | (b, v) :: m, a => if b = a then v else Memory.read m a

/-- The memory with byte `v` at address `a`; writing 0x00 removes the entry. -/
def Memory.write : Memory → Nat → Byte → Memory
  | [], a, v => if v = 0 then [] else [(a, v)]
  | (b, w) :: m, a, v =>
    if a < b then (if v = 0 then (b, w) :: m else (a, v) :: (b, w) :: m)
    else if a = b then (if v = 0 then m else (a, v) :: m)
    else (b, w) :: Memory.write m a v

/-- The nonzero bytes of `vs`, laid out from address `base`. -/
def Memory.ofBytes : Nat → List Byte → Memory
  | _, [] => []
  | base, v :: vs =>
    if v = 0 then Memory.ofBytes (base + 1) vs else (base, v) :: Memory.ofBytes (base + 1) vs

/-- The memory with the bytes `vs` at the addresses from `base` on, every other byte as it was. -/
def Memory.writeRange (m : Memory) (base : Nat) (vs : List Byte) : Memory :=
  m.filter (fun c => decide (c.1 < base)) ++ Memory.ofBytes base vs
    ++ m.filter (fun c => decide (base + vs.length ≤ c.1))

/-- The entries rise strictly from `lo` on and none holds 0x00. -/
def Memory.wfFrom : Nat → Memory → Bool
  | _, [] => true
  | lo, (a, v) :: m => decide (lo ≤ a) && decide (v ≠ 0) && Memory.wfFrom (a + 1) m

/-- The canonical form: addresses strictly rising, no entry equal to what an unlisted address reads as. -/
def Memory.wf (m : Memory) : Bool := Memory.wfFrom 0 m

/-- Every listed address is below `n`. -/
def Memory.below (n : Nat) (m : Memory) : Bool := m.all fun c => decide (c.1 < n)

end Sys2Proof
end

