-- ==== Sys2Proof/Machine/Ppu.lean ====
section
/-! DEFINITION. The PPU: register interface (R213 to R216), memories and DATA port (R217 to R222), scanline counter
and renderer (R223 to R228). -/

namespace Sys2Proof.Machine

/-- The eight PPU registers (R213). -/
inductive PpuReg where
  | ctrl
  | mask
  | status
  | oamAddr
  | oamData
  | scroll
  | addr
  | data
  deriving DecidableEq, Repr

/-- The register a CPU address selects: its value modulo 8 (R46). -/
def ppuReg (a : Nat) : PpuReg :=
  match a % 8 with
  | 0 => .ctrl
  | 1 => .mask
  | 2 => .status
  | 3 => .oamAddr
  | 4 => .oamData
  | 5 => .scroll
  | 6 => .addr
  | _ => .data

/-- `chr_at(a)` (R218). -/
def chrAt (c : Cart) (a : Nat) : Byte := if a < c.chrLen then c.chr.read a else 0

/-- `mirror(a)`: the VRAM offset of a nametable address (R219). -/
def mirrorOffset (m : Mirroring) (a : Nat) : Nat :=
  match m with
  | .vertical => a % 0x0800
  | .horizontal => if a % 0x2000 ≥ 0x0800 then 0x0400 + a % 0x0400 else a % 0x0400
  | .fourScreen => a % 0x0800

/-- `pal_index(a)` (R220). -/
def palIndex (mirror : Bool) (a : Nat) : Nat :=
  let k := a % 0x20
  if mirror && (k == 0x10 || k == 0x14 || k == 0x18 || k == 0x1C) then k - 0x10 else k

/-- The DATA port's PPU address: `latch mod 0x4000` (R217). -/
def dataAddress (p : Ppu) : Nat := p.latch.toNat % 0x4000

/-- The latch after a DATA access: + 32 when CTRL bit 2 is 1, else + 1 (R217). -/
def stepLatch (p : Ppu) : Word := p.latch + (if p.ctrl.getLsbD 2 then 32 else 1)

/-- The latch after a SCROLL or ADDR write: the low byte moves up and the new byte enters below (R216). -/
def shiftLatch (p : Ppu) (v : Byte) : Word := w16 (lo8 p.latch) v

/-- The read image of STATUS (R34, R215): sprite-0 hit and overflow read 0. -/
def statusImage (p : Ppu) : Byte := flagAt p.vblank 7 ||| (p.databus &&& 0x1F)

/-- A STATUS read (R215), up to the databus. -/
def readStatus (p : Ppu) : Byte × Ppu := (statusImage p, { p with vblank := false, latch := 0 })

/-- A DATA read (R221), up to the databus. -/
def readData (mirror : Bool) (c : Cart) (p : Ppu) : Byte × Ppu :=
  let a := dataAddress p
  if a < 0x2000 then
    (p.readBuffer, { p with readBuffer := chrAt c a, latch := stepLatch p })
  else if a < 0x3F00 then
    (p.readBuffer, { p with readBuffer := p.vram.read (mirrorOffset c.mirroring a), latch := stepLatch p })
  else
    (p.palette.read (palIndex mirror a),
      { p with readBuffer := p.vram.read (mirrorOffset c.mirroring (a - 0x1000)), latch := stepLatch p })

/-- The read column of R213. -/
def readRegister (mirror : Bool) (c : Cart) (r : PpuReg) (p : Ppu) : Byte × Ppu :=
  match r with
  | .status => readStatus p
  | .oamData => (p.oam.read p.oamAddr.toNat, p)
  | .data => readData mirror c p
  | .ctrl | .mask | .oamAddr | .scroll | .addr => (p.databus, p)

/-- A CPU read of a PPU register: the value, which also becomes the databus (R214). -/
def ppuRead (mirror : Bool) (c : Cart) (r : PpuReg) (p : Ppu) : Byte × Ppu :=
  let q := readRegister mirror c r p
  (q.1, { q.2 with databus := q.1 })

/-- A DATA write (R222), after the databus. -/
def writeData (mirror : Bool) (c : Cart) (v : Byte) (p : Ppu) : Ppu :=
  let a := dataAddress p
  if a < 0x2000 then { p with latch := stepLatch p }
  else if a < 0x3F00 then
    { p with vram := p.vram.write (mirrorOffset c.mirroring a) v, latch := stepLatch p }
  else { p with palette := p.palette.write (palIndex mirror a) v, latch := stepLatch p }

/-- The write column of R213. -/
def writeRegister (mirror : Bool) (c : Cart) (r : PpuReg) (v : Byte) (p : Ppu) : Ppu :=
  match r with
  | .ctrl => { p with ctrl := v }
  | .mask => { p with mask := v }
  | .status => p
  | .oamAddr => { p with oamAddr := v }
  | .oamData => { p with oam := p.oam.write p.oamAddr.toNat v, oamAddr := p.oamAddr + 1 }
  | .scroll | .addr => { p with latch := shiftLatch p v }
  | .data => writeData mirror c v p

/-- A CPU write of a PPU register (R216). -/
def ppuWrite (mirror : Bool) (c : Cart) (r : PpuReg) (v : Byte) (p : Ppu) : Ppu :=
  writeRegister mirror c r v { p with databus := v }

/-- The 2-bit value of bit `b` of a tile row: plane 1 over plane 0 (R225). -/
def planeValue (lo hi : Byte) (b : Nat) : Nat := 2 * (hi.getLsbD b).toNat + (lo.getLsbD b).toNat

/-- The base of a pattern bank: `bit * 0x1000` (R225, R227). -/
def patternBank (bit : Bool) : Nat := if bit then 0x1000 else 0

/-- The 2-bit value of column bit `b` in row `row` of tile `tile`. -/
def tileValue (c : Cart) (bank : Nat) (tile : Byte) (row b : Nat) : Nat :=
  planeValue (chrAt c (bank + tile.toNat * 16 + row)) (chrAt c (bank + tile.toNat * 16 + row + 8)) b

/-- `attr_base(tx, ty)` (R226). -/
def attrBase (p : Ppu) (tx ty : Nat) : Nat :=
  let at0 := (p.vram.read (0x3C0 + ty / 4 * 8 + tx / 4)).toNat
  let at1 := if tx % 4 ≥ 2 then at0 >>> 2 else at0
  let at2 := if ty % 4 ≥ 2 then at1 >>> 4 else at1
  at2 % 4 * 4

/-- The background pixel in column `x` of scanline `s` (R225). -/
def bgPixel (c : Cart) (p : Ppu) (s x : Nat) : Byte :=
  let tx := x / 8
  let ty := s / 8
  let val := tileValue c (patternBank (p.ctrl.getLsbD 4)) (p.vram.read (ty * 32 + tx)) (s % 8) (7 - x % 8)
  if val = 0 then p.palette.read 0 else p.palette.read (attrBase p tx ty + val)

/-- `render_bg(s)` (R225). -/
def renderBg (c : Cart) (s : Nat) (p : Ppu) : Ppu :=
  { p with fb := p.fb.writeRange (s * 256) ((List.range 256).map (bgPixel c p s)) }

/-- Pixel (row, col) of sprite `i`, drawn over `fb` (R227). -/
def drawSpritePixel (c : Cart) (p : Ppu) (i row col : Nat) (fb : Memory) : Memory :=
  let y := (p.oam.read (4 * i)).toNat
  let tile := p.oam.read (4 * i + 1)
  let at8 := p.oam.read (4 * i + 2)
  let x := (p.oam.read (4 * i + 3)).toNat
  let r := if at8.getLsbD 7 then 7 - row else row
  let b := if at8.getLsbD 6 then col else 7 - col
  let val := tileValue c (patternBank (p.ctrl.getLsbD 3)) tile r b
  if val > 0 ∧ x + col < 256 ∧ y + row < 240 then
    fb.write ((y + row) * 256 + (x + col)) (p.palette.read (0x10 + 4 * (at8.toNat % 4) + val))
  else fb

/-- Sprite `i`, row by row from the top, column by column from the left (R227). -/
def drawSprite (c : Cart) (p : Ppu) (fb : Memory) (i : Nat) : Memory :=
  (List.range 64).foldl (fun m k => drawSpritePixel c p i (k / 8) (k % 8) m) fb

/-- `render_sprites()` (R227): entries 63 down to 0, so entry 0 is drawn last. -/
def renderSprites (c : Cart) (p : Ppu) : Ppu :=
  { p with fb := (List.range 64).reverse.foldl (drawSprite c p) p.fb }

/-- The end of a scanline (R223): the finished line, the next line number and the events of lines 240, 241, 262. -/
def endScanline (c : Cart) (p : Ppu) : Ppu :=
  let p1 := if p.scanline.toNat < 240 then renderBg c p.scanline.toNat p else p
  let p2 := { p1 with scanline := p1.scanline + 1 }
  let p3 := if p2.scanline = 240 then renderSprites c p2 else p2
  let p4 := if p3.scanline = 241 then { p3 with vblank := true, nmiOut := p3.nmiOut || p3.ctrl.getLsbD 7 } else p3
  if p4.scanline = 262 then { p4 with scanline := 0, vblank := false } else p4

/-- One PPU cycle (R223). -/
def ppuCycle (c : Cart) (p : Ppu) : Ppu :=
  let q := { p with cycle := p.cycle + 1 }
  if q.cycle = 341 then endScanline c { q with cycle := 0 } else q

/-- `ppu_tick(n)` (R223). -/
def ppuTick (c : Cart) : Nat → Ppu → Ppu
  | 0, p => p
  | n + 1, p => ppuTick c n (ppuCycle c p)

/-- The PPU's place in its frame, in PPU cycles: 341 to a scanline (R223). -/
def Ppu.position (p : Ppu) : Nat := 341 * p.scanline.toNat + p.cycle.toNat

/-- The PPU cycles of a frame: 262 scanlines of 341 cycles (R223). -/
def cyclesPerFrame : Nat := 262 * 341

/-- How often a tick of `n` cycles wraps the scanline counter from 261 to 0 (R223, R224). -/
def Ppu.frameWraps (n : Nat) (p : Ppu) : Nat := (p.position + n) / cyclesPerFrame

end Sys2Proof.Machine
end

