-- ==== Sys2Proof/Machine/Registers.lean ====
section
/-! DEFINITION. The one place where each piece of state is written. -/

namespace Sys2Proof.Machine

def State.setA (v : Byte) (s : State) : State := { s with a := v }
def State.setX (v : Byte) (s : State) : State := { s with x := v }
def State.setY (v : Byte) (s : State) : State := { s with y := v }
def State.setSp (v : Byte) (s : State) : State := { s with sp := v }
def State.setPc (v : Word) (s : State) : State := { s with pc := v }
def State.setFlags (p : Flags) (s : State) : State := { s with p := p }
def State.setNmiPending (b : Bool) (s : State) : State := { s with nmiPending := b }
def State.setIrqPending (b : Bool) (s : State) : State := { s with irqPending := b }
def State.setHalted (b : Bool) (s : State) : State := { s with halted := b }
def State.setRefused (m : Option Byte) (s : State) : State := { s with refused := m }
def State.setFaulted (m : Option Word) (s : State) : State := { s with faulted := m }
def State.addCycles (n : Nat) (s : State) : State := { s with cycles := s.cycles + n }
def State.setWram (m : Memory) (s : State) : State := { s with wram := m }
def State.setApu (m : Memory) (s : State) : State := { s with apu := m }
def State.setRam (m : Memory) (s : State) : State := { s with ram := m }
def State.setPpu (p : Ppu) (s : State) : State := { s with ppu := p }
def State.setPad (p : Pad) (s : State) : State := { s with pad := p }
def State.setButtons (v : Byte) (s : State) : State := { s with buttons := v }
def State.setDraws (n : Nat) (s : State) : State := { s with draws := n }
def State.setCart (c : Cart) (s : State) : State := { s with cart := c }

end Sys2Proof.Machine
end

