-- ==== Sys2Proof/WellFormed.lean ====
section
/-! DEFINITION. What makes an instruction term, and a cartridge, well formed. -/

namespace Sys2Proof

/-- A branch offset is a signed byte, -128 to +127 (R66, row Relative). -/
def offsetInRange (off : Int) : Bool := decide (-128 ≤ off) && decide (off ≤ 127)

/-- The check on an instruction's operand. Bytes and addresses are in range by their types. -/
def Instr.wellFormed : Instr → Bool
  | .brk => true
  | .oraIzx _ => true
  | .jam02 => true
  | .sloIzx _ => true
  | .nopZp04 _ => true
  | .oraZp _ => true
  | .aslZp _ => true
  | .sloZp _ => true
  | .php => true
  | .oraImm _ => true
  | .aslImp => true
  | .ancImm0B _ => true
  | .nopAbs _ => true
  | .oraAbs _ => true
  | .aslAbs _ => true
  | .sloAbs _ => true
  | .bpl off => offsetInRange off
  | .oraIzy _ => true
  | .jam12 => true
  | .sloIzy _ => true
  | .nopZpx14 _ => true
  | .oraZpx _ => true
  | .aslZpx _ => true
  | .sloZpx _ => true
  | .clc => true
  | .oraAby _ => true
  | .nopImp1A => true
  | .sloAby _ => true
  | .nopAbx1C _ => true
  | .oraAbx _ => true
  | .aslAbx _ => true
  | .sloAbx _ => true
  | .jsr _ => true
  | .andIzx _ => true
  | .jam22 => true
  | .rlaIzx _ => true
  | .bitZp _ => true
  | .andZp _ => true
  | .rolZp _ => true
  | .rlaZp _ => true
  | .plp => true
  | .andImm _ => true
  | .rolImp => true
  | .ancImm2B _ => true
  | .bitAbs _ => true
  | .andAbs _ => true
  | .rolAbs _ => true
  | .rlaAbs _ => true
  | .bmi off => offsetInRange off
  | .andIzy _ => true
  | .jam32 => true
  | .rlaIzy _ => true
  | .nopZpx34 _ => true
  | .andZpx _ => true
  | .rolZpx _ => true
  | .rlaZpx _ => true
  | .sec => true
  | .andAby _ => true
  | .nopImp3A => true
  | .rlaAby _ => true
  | .nopAbx3C _ => true
  | .andAbx _ => true
  | .rolAbx _ => true
  | .rlaAbx _ => true
  | .rti => true
  | .eorIzx _ => true
  | .jam42 => true
  | .sreIzx _ => true
  | .nopZp44 _ => true
  | .eorZp _ => true
  | .lsrZp _ => true
  | .sreZp _ => true
  | .pha => true
  | .eorImm _ => true
  | .lsrImp => true
  | .alr _ => true
  | .jmpAbs _ => true
  | .eorAbs _ => true
  | .lsrAbs _ => true
  | .sreAbs _ => true
  | .bvc off => offsetInRange off
  | .eorIzy _ => true
  | .jam52 => true
  | .sreIzy _ => true
  | .nopZpx54 _ => true
  | .eorZpx _ => true
  | .lsrZpx _ => true
  | .sreZpx _ => true
  | .cli => true
  | .eorAby _ => true
  | .nopImp5A => true
  | .sreAby _ => true
  | .nopAbx5C _ => true
  | .eorAbx _ => true
  | .lsrAbx _ => true
  | .sreAbx _ => true
  | .rts => true
  | .adcIzx _ => true
  | .jam62 => true
  | .rraIzx _ => true
  | .nopZp64 _ => true
  | .adcZp _ => true
  | .rorZp _ => true
  | .rraZp _ => true
  | .pla => true
  | .adcImm _ => true
  | .rorImp => true
  | .arr _ => true
  | .jmpInd _ => true
  | .adcAbs _ => true
  | .rorAbs _ => true
  | .rraAbs _ => true
  | .bvs off => offsetInRange off
  | .adcIzy _ => true
  | .jam72 => true
  | .rraIzy _ => true
  | .nopZpx74 _ => true
  | .adcZpx _ => true
  | .rorZpx _ => true
  | .rraZpx _ => true
  | .sei => true
  | .adcAby _ => true
  | .nopImp7A => true
  | .rraAby _ => true
  | .nopAbx7C _ => true
  | .adcAbx _ => true
  | .rorAbx _ => true
  | .rraAbx _ => true
  | .nopImm80 _ => true
  | .staIzx _ => true
  | .nopImm82 _ => true
  | .saxIzx _ => true
  | .styZp _ => true
  | .staZp _ => true
  | .stxZp _ => true
  | .saxZp _ => true
  | .dey => true
  | .nopImm89 _ => true
  | .txa => true
  | .ane _ => true
  | .styAbs _ => true
  | .staAbs _ => true
  | .stxAbs _ => true
  | .saxAbs _ => true
  | .bcc off => offsetInRange off
  | .staIzy _ => true
  | .jam92 => true
  | .shaIzy _ => true
  | .styZpx _ => true
  | .staZpx _ => true
  | .stxZpy _ => true
  | .saxZpy _ => true
  | .tya => true
  | .staAby _ => true
  | .txs => true
  | .tas _ => true
  | .shy _ => true
  | .staAbx _ => true
  | .shx _ => true
  | .shaAby _ => true
  | .ldyImm _ => true
  | .ldaIzx _ => true
  | .ldxImm _ => true
  | .laxIzx _ => true
  | .ldyZp _ => true
  | .ldaZp _ => true
  | .ldxZp _ => true
  | .laxZp _ => true
  | .tay => true
  | .ldaImm _ => true
  | .tax => true
  | .lxa _ => true
  | .ldyAbs _ => true
  | .ldaAbs _ => true
  | .ldxAbs _ => true
  | .laxAbs _ => true
  | .bcs off => offsetInRange off
  | .ldaIzy _ => true
  | .jamB2 => true
  | .laxIzy _ => true
  | .ldyZpx _ => true
  | .ldaZpx _ => true
  | .ldxZpy _ => true
  | .laxZpy _ => true
  | .clv => true
  | .ldaAby _ => true
  | .tsx => true
  | .las _ => true
  | .ldyAbx _ => true
  | .ldaAbx _ => true
  | .ldxAby _ => true
  | .laxAby _ => true
  | .cpyImm _ => true
  | .cmpIzx _ => true
  | .nopImmC2 _ => true
  | .dcpIzx _ => true
  | .cpyZp _ => true
  | .cmpZp _ => true
  | .decZp _ => true
  | .dcpZp _ => true
  | .iny => true
  | .cmpImm _ => true
  | .dex => true
  | .sbx _ => true
  | .cpyAbs _ => true
  | .cmpAbs _ => true
  | .decAbs _ => true
  | .dcpAbs _ => true
  | .bne off => offsetInRange off
  | .cmpIzy _ => true
  | .jamD2 => true
  | .dcpIzy _ => true
  | .nopZpxD4 _ => true
  | .cmpZpx _ => true
  | .decZpx _ => true
  | .dcpZpx _ => true
  | .cld => true
  | .cmpAby _ => true
  | .nopImpDA => true
  | .dcpAby _ => true
  | .nopAbxDC _ => true
  | .cmpAbx _ => true
  | .decAbx _ => true
  | .dcpAbx _ => true
  | .cpxImm _ => true
  | .sbcIzx _ => true
  | .nopImmE2 _ => true
  | .isbIzx _ => true
  | .cpxZp _ => true
  | .sbcZp _ => true
  | .incZp _ => true
  | .isbZp _ => true
  | .inx => true
  | .sbcImm _ => true
  | .nop => true
  | .usbc _ => true
  | .cpxAbs _ => true
  | .sbcAbs _ => true
  | .incAbs _ => true
  | .isbAbs _ => true
  | .beq off => offsetInRange off
  | .sbcIzy _ => true
  | .jamF2 => true
  | .isbIzy _ => true
  | .nopZpxF4 _ => true
  | .sbcZpx _ => true
  | .incZpx _ => true
  | .isbZpx _ => true
  | .sed => true
  | .sbcAby _ => true
  | .nopImpFA => true
  | .isbAby _ => true
  | .nopAbxFC _ => true
  | .sbcAbx _ => true
  | .incAbx _ => true
  | .isbAbx _ => true

/-- The length of PRG ROM in bytes (R6). -/
def PrgSize.bytes : PrgSize → Nat
  | .k16 => 16384
  | .k32 => 32768

/-- A cartridge's two byte sequences are canonical and hold nothing past their lengths (R30). -/
def Cart.wellFormed (c : Cart) : Bool :=
  c.prg.wf && c.prg.below c.prgSize.bytes && c.chr.wf && c.chr.below c.chrLen

end Sys2Proof
end

