-- ==== Sys2Proof/Machine/Bus.lean ====
section
/-! DEFINITION. The CPU bus: address decoder (R43 to R54), OAM DMA (R229) and gamepad port (R230, R231). -/

namespace Sys2Proof.Machine

/-- Where the bus routes an address (R44; `ram` is the FlatRam variant, R43). -/
inductive Region where
  | wram (off : Nat)
  | ppu (r : PpuReg)
  | apu (a : Nat)
  | oamDma
  | pad1
  | pad2
  | unlisted
  | openBus
  | prg (off : Nat)
  | ram (a : Nat)
  deriving DecidableEq, Repr

/-- The address decoder of the NES bus, checked top to bottom (R44). -/
def nesRegion (size : PrgSize) (a : Nat) : Region :=
  if a < 0x2000 then .wram (a % 0x0800)
  else if a < 0x4000 then .ppu (ppuReg a)
  else if a < 0x4014 then .apu a
  else if a = 0x4014 then .oamDma
  else if a = 0x4015 then .apu a
  else if a = 0x4016 then .pad1
  else if a = 0x4017 then .pad2
  else if a < 0x4020 then .unlisted
  else if a < 0x8000 then .openBus
  else .prg ((a - 0x8000) % size.bytes)

/-- The region of an address under the launch's bus variant (R43). -/
def State.region (s : State) (a : Word) : Region :=
  match s.params.busVariant with
  | .flatRam => .ram a.toNat
  | .nes => nesRegion s.cart.prgSize a.toNat

/-- A read of 0x4016 (R231). -/
def padRead (s : State) : Byte × State :=
  if s.pad.strobe then (flagByte (s.buttons.getLsbD 0), s)
  else
    (flagByte (s.pad.snapshot.getLsbD s.pad.index.toNat),
      s.setPad { s.pad with index := if s.pad.index = 7 then 7 else s.pad.index + 1 })

/-- A write to 0x4016 (R230). -/
def padWrite (v : Byte) (s : State) : State :=
  s.setPad {
    strobe := v.getLsbD 0
    index := 0
    snapshot := if v.getLsbD 0 then s.pad.snapshot else s.buttons }

/-- `read(a)`: the byte, and the state after the read's side effect (R10, R44, R54). -/
def busRead (a : Word) (s : State) : Byte × State :=
  match s.region a with
  | .wram off => (s.wram.read off, s)
  | .ppu r =>
    let q := ppuRead s.params.paletteMirror s.cart r s.ppu
    (q.1, s.setPpu q.2)
  | .apu k => (s.apu.read k, s)
  | .oamDma => (0, s)
  | .pad1 => padRead s
  | .pad2 => (Config.hostByte4017 s.draws, s.setDraws (s.draws + 1))
  | .unlisted => (0, s)
  | .openBus => (0, s)
  | .prg off => (s.cart.prg.read off, s)
  | .ram k => (s.ram.read k, s)

/-- One byte of the OAM DMA: `oam[(oam_addr + i) mod 256] <- read(v * 256 + i)` (R229). -/
def oamDmaByte (page : Byte) (s : State) (i : Nat) : State :=
  let q := busRead (w16 page (BitVec.ofNat 8 i)) s
  q.2.setPpu { q.2.ppu with oam := q.2.ppu.oam.write (q.2.ppu.oamAddr + BitVec.ofNat 8 i).toNat q.1 }

/-- A write of `page` to 0x4014 (R229). -/
def oamDma (page : Byte) (s : State) : State :=
  match s.params.oamDmaMode with
  | .noOp => s
  | .copy => ((List.range 256).foldl (oamDmaByte page) s).addCycles s.params.oamDmaCycles

/-- `write(a, v)` where it has an effect on the state (R44). A write to PRG ROM has none; whether it also faults is
`busWrite`. -/
def busStore (a : Word) (v : Byte) (s : State) : State :=
  match s.region a with
  | .wram off => s.setWram (s.wram.write off v)
  | .ppu r => s.setPpu (ppuWrite s.params.paletteMirror s.cart r v s.ppu)
  | .apu k => s.setApu (s.apu.write k v)
  | .oamDma => oamDma v s
  | .pad1 => padWrite v s
  | .pad2 => s.setApu (s.apu.write 0x4017 v)
  | .unlisted => s
  | .openBus => s
  | .prg _ => s
  | .ram k => s.setRam (s.ram.write k v)

/-- Does a write at `a` raise `BusError`? (R53, R112) -/
def writeFaults (a : Word) (s : State) : Bool :=
  match s.region a with
  | .prg _ => s.params.prgWritePolicy == .fault
  | .wram _ | .ppu _ | .apu _ | .oamDma | .pad1 | .pad2 | .unlisted | .openBus | .ram _ => false

/-- `MemWrite(a, 1, v)`: the state after the write, or none where it raises `BusError(a)` (R10, R53). -/
def busWrite (a : Word) (v : Byte) (s : State) : Option State :=
  if writeFaults a s then none else some (busStore a v s)

/-- `read16(a)`: two byte reads, the one at `a` first (R10, R40). -/
def read16 (a : Word) (s : State) : Word × State :=
  let l := busRead a s
  let h := busRead (a + 1) l.2
  (w16 h.1 l.1, h.2)

end Sys2Proof.Machine
end

