-- ==== Sys2Proof/Machine/Operands.lean ====
section
/-! DEFINITION. Effective addresses and operand access (R88 to R101). While a meaning runs, `pc` is the address of the
first operand byte (R17). The operand's value stands in the instruction; here its bytes are read from the bus for the
side effects of the fetch (R62, log 9). -/

namespace Sys2Proof.Machine

/-- The bus read of the one operand byte at PC. -/
def fetchOperand8 (s : State) : State := (busRead s.pc s).2

/-- The bus reads of the two operand bytes at PC and PC + 1, in that order (R93). -/
def fetchOperand16 (s : State) : State := (read16 s.pc s).2

/-- The page-cross penalty: 1 cycle when the descriptor is flagged and the pages of base and EA differ (R88). -/
def pageCross (flagged : Bool) (base ea : Word) (s : State) : State :=
  if flagged && hi8 ea != hi8 base then s.addCycles 1 else s

/-- A pointer in the zero page: low byte at `p`, high byte at `(p + 1) mod 256` (R98, R99). -/
def zeroPagePointer (p : Byte) (s : State) : Word × State :=
  let l := busRead (zext16 p) s
  let h := busRead (zext16 (p + 1)) l.2
  (w16 h.1 l.1, h.2)

/-- Where JMP indirect reads the high byte of its target: in the page of `base` (R97). -/
def indirectHigh (base : Word) : Word := w16 (hi8 base) (lo8 base + 1)

/-- The JMP indirect target, low byte read first, with the page-wrap bug (R97). -/
def indirectTarget (base : Word) (s : State) : Word × State :=
  let l := busRead base s
  let h := busRead (indirectHigh base) l.2
  (w16 h.1 l.1, h.2)

/-- An indexed address and its page-cross penalty (R94, R95, R99). -/
def indexed (flagged : Bool) (base : Word) (index : Byte) (s : State) : Word × State :=
  let ea := base + zext16 index
  (ea, pageCross flagged base ea s)

/-- The effective address of an operand, and the state after the reads that computing it makes (R89 to R99).
`flagged` is the descriptor's page-cross flag. -/
def effectiveAddress (flagged : Bool) (o : Operand) (s : State) : Word × State :=
  match o with
  | .immediate _ => (s.pc, s)
  | .zeropage b => (zext16 b, fetchOperand8 s)
  | .zeropageX b => (zext16 (b + s.x), fetchOperand8 s)
  | .zeropageY b => (zext16 (b + s.y), fetchOperand8 s)
  | .absolute w => (w, fetchOperand16 s)
  | .absoluteX w => indexed flagged w s.x (fetchOperand16 s)
  | .absoluteY w => indexed flagged w s.y (fetchOperand16 s)
  | .relative off => (addOffset (s.pc + 1) off, fetchOperand8 s)
  | .indirect w => indirectTarget w (fetchOperand16 s)
  | .indirectX b => zeroPagePointer (b + s.x) (fetchOperand8 s)
  | .indirectY b =>
    let q := zeroPagePointer b (fetchOperand8 s)
    indexed flagged q.1 s.y q.2

/-- `M`: the byte an operand designates, and the state after its reads (R101). An immediate operand is the
instruction's own byte. -/
def readOperand (flagged : Bool) (o : Operand) (s : State) : Byte × State :=
  match o with
  | .immediate b => (b, fetchOperand8 s)
  | .zeropage _ | .zeropageX _ | .zeropageY _ | .absolute _ | .absoluteX _ | .absoluteY _ | .relative _
  | .indirect _ | .indirectX _ | .indirectY _ =>
    let e := effectiveAddress flagged o s
    busRead e.1 e.2

end Sys2Proof.Machine
end

