-- ==== Sys2Proof/Machine/Ops.lean ====
section
/-! DEFINITION. The shared operations of the instructions: stack (R103 to R106), PC advance (R86), outcomes
(R194, R195, R181), taking an interrupt and returning from one (R161, R162, R203, R204), and the access classes of
R101. -/

namespace Sys2Proof.Machine

/-- The stack byte SP designates: `0x0100 | SP` (R16). -/
def stackAddress (sp : Byte) : Word := w16 0x01 sp

/-- `push8(v)` (R103). The stack page is never PRG ROM, so a push never faults
(`Sys2Proof.Machine.writeFaults_stack`). -/
def push8 (v : Byte) (s : State) : State := (busStore (stackAddress s.sp) v s).setSp (s.sp - 1)

/-- `pop8()` (R104). -/
def pop8 (s : State) : Byte × State := busRead (stackAddress (s.sp + 1)) (s.setSp (s.sp + 1))

/-- `push16(w)`: the high byte first (R105). -/
def push16 (w : Word) (s : State) : State := push8 (lo8 w) (push8 (hi8 w) s)

/-- `pop16()`: the low byte first (R106). -/
def pop16 (s : State) : Word × State :=
  let l := pop8 s
  let h := pop8 l.2
  (w16 h.1 l.1, h.2)

/-- `set_nz` on the state (R102). -/
def State.setNZ (v : Byte) (s : State) : State := s.setFlags (Machine.setNZ v s.p)

/-- The PC advance after the handler (R86): `length` is the descriptor's, `snap` the PC before the handler, and
`transferred` tells a control transfer that took place. -/
def advancePc (length : Nat) (snap : Word) (transferred : Bool) (s : State) : State :=
  let moved : Bool :=
    match s.params.pcAdvanceRule with
    | .byClass => transferred
    | .bySnapshot => s.pc != snap
  if moved then s else s.setPc (s.pc + BitVec.ofNat 16 (length - 1))

/-- `raise BusError(a)`: the step ends, and the state it leaves is marked (R194). -/
def raiseBusError (a : Word) (s : State) : Result := .fault (.busError a (s.setFaulted (some a)))

/-- `refuse(op)`: the step ends, and the state it leaves is marked (R195). -/
def refuse (op : Byte) (s : State) : Result := .refused (.refusedOpcode op (s.setRefused (some op)))

/-- Taking an interrupt, the one operation behind BRK, NMI and IRQ (R161, R203, R204): push the return address and
the flags with break bit `brk`, set P.I, load PC from the vector. -/
def takeInterrupt (ret : Word) (brk : Bool) (vector : Word) (s : State) : State :=
  let s1 := push8 (pack s.p brk) (push16 ret s)
  let s2 := s1.setFlags { s1.p with i := true }
  let t := read16 vector s2
  t.2.setPc t.1

/-- Servicing NMI (R203). -/
def serviceNmi (s : State) : State :=
  (takeInterrupt s.pc s.p.b 0xFFFA (s.setNmiPending false)).addCycles s.params.intServiceCycles

/-- Servicing IRQ (R204). -/
def serviceIrq (s : State) : State :=
  (takeInterrupt s.pc s.p.b 0xFFFE (s.setIrqPending false)).addCycles s.params.intServiceCycles

/-- Returning from an interrupt (R162): the flags but B, then PC, with no + 1. -/
def returnFromInterrupt (s : State) : State :=
  let f := pop8 s
  let s1 := f.2.setFlags (unpack f.1 f.2.p)
  let t := pop16 s1
  t.2.setPc t.1

/-- An Implied instruction that moves data between registers or the stack: base cycles, the effect `f`, PC advance
(R85 to R87). -/
def impliedInstr (base : Nat) (f : State → State) (s : State) : Result :=
  .next (advancePc 1 s.pc false (f (s.addCycles base)))

/-- A control transfer of the given length: `f` sets PC (R86). -/
def transferInstr (length base : Nat) (f : State → State) (s : State) : Result :=
  .next (advancePc length s.pc true (f (s.addCycles base)))

/-- The read class (R101): one read of the operand, then the effect `f` of the byte. -/
def readInstr (base : Nat) (flagged : Bool) (o : Operand) (f : Byte → State → State) (s : State) : Result :=
  let m := readOperand flagged o (s.addCycles base)
  .next (advancePc o.mode.length s.pc false (f m.1 m.2))

/-- The write class (R101): one write of `v` at the effective address, no read. -/
def writeInstr (base : Nat) (o : Operand) (v : Byte) (s : State) : Result :=
  let e := effectiveAddress false o (s.addCycles base)
  match busWrite e.1 v e.2 with
  | none => raiseBusError e.1 e.2
  | some t => .next (advancePc o.mode.length s.pc false t)

/-- The read-modify-write class (R101): one read, one write of `op`'s result, then `op`'s flags and the effect `post`
of the result. A write that raises ends the step before any flag changes (R194, log 12). -/
def rmwInstr (base : Nat) (o : Operand) (op : Byte → Flags → Byte × Flags) (post : Byte → State → State)
    (s : State) : Result :=
  let e := effectiveAddress false o (s.addCycles base)
  let m := busRead e.1 e.2
  let r := op m.1 m.2.p
  match busWrite e.1 r.1 m.2 with
  | none => raiseBusError e.1 m.2
  | some t => .next (advancePc o.mode.length s.pc false (post r.1 (t.setFlags r.2)))

/-- A conditional branch (R111). Not taken, it reads nothing. -/
def branchInstr (base : Nat) (cond : Bool) (off : Int) (s : State) : Result :=
  let s1 := s.addCycles base
  if cond then
    let e := effectiveAddress false (.relative off) s1
    let n := if hi8 e.1 != hi8 (s.pc + 1) then 2 else 1
    .next (advancePc 2 s.pc true ((e.2.addCycles n).setPc e.1))
  else .next (advancePc 2 s.pc false s1)

/-- A stable stub (44_undocumented.md section 5): refused before any operand byte is read, or the read-class effect
`f`. -/
def stubInstr (op : Byte) (base : Nat) (flagged : Bool) (o : Operand) (f : Byte → State → State)
    (s : State) : Result :=
  match s.params.stubPolicy with
  | .refuse => refuse op (s.addCycles base)
  | .nmos => readInstr base flagged o f s

/-- An unstable stub (44_undocumented.md section 6): refused under either policy. -/
def unstableInstr (op : Byte) (base : Nat) (s : State) : Result := refuse op (s.addCycles base)

/-- A NOP without a memory operand (R170, R180): base cycles and PC advance, no access. -/
def skipInstr (length base : Nat) (s : State) : Result :=
  .next (advancePc length s.pc false (s.addCycles base))

/-- An undocumented NOP with a memory operand (R180): reads it under `NOP_READS_OPERAND` only; otherwise only the
page-cross-flagged form computes its address. -/
def nopMemoryInstr (base : Nat) (flagged : Bool) (o : Operand) (s : State) : Result :=
  let s1 := s.addCycles base
  let s2 :=
    if s.params.nopReadsOperand then (readOperand flagged o s1).2
    else if flagged then (effectiveAddress flagged o s1).2
    else s1
  .next (advancePc o.mode.length s.pc false s2)

/-- JAM (R181): the CPU halts, with PC after the opcode and the base cycles added. -/
def jam (s : State) : Result := .next ((s.addCycles 2).setHalted true)

end Sys2Proof.Machine
end

