-- ==== Sys2Proof/Machine/Arith.lean ====
section
/-! DEFINITION. Add and subtract: ADC SBC (42_arith_logic_shift.md section 2), binary whatever P.D (R129). -/

namespace Sys2Proof.Machine

/-- `add(M)` (R130). -/
def addA (m : Byte) (s : State) : State :=
  let r := add s.a m s.p
  (s.setA r.1).setFlags r.2

/-- ADC IndirectX, 0x61 (R130). -/
def execAdcIzx (b : Byte) (s : State) : Result :=
  readInstr 6 false (.indirectX b) addA s

/-- ADC Zeropage, 0x65 (R130). -/
def execAdcZp (b : Byte) (s : State) : Result :=
  readInstr 3 false (.zeropage b) addA s

/-- ADC Immediate, 0x69 (R130). -/
def execAdcImm (b : Byte) (s : State) : Result :=
  readInstr 2 false (.immediate b) addA s

/-- ADC Absolute, 0x6D (R130). -/
def execAdcAbs (w : Word) (s : State) : Result :=
  readInstr 4 false (.absolute w) addA s

/-- ADC IndirectY, 0x71 (R130). -/
def execAdcIzy (b : Byte) (s : State) : Result :=
  readInstr 5 true (.indirectY b) addA s

/-- ADC ZeropageX, 0x75 (R130). -/
def execAdcZpx (b : Byte) (s : State) : Result :=
  readInstr 4 false (.zeropageX b) addA s

/-- ADC AbsoluteY, 0x79 (R130). -/
def execAdcAby (w : Word) (s : State) : Result :=
  readInstr 4 true (.absoluteY w) addA s

/-- ADC AbsoluteX, 0x7D (R130). -/
def execAdcAbx (w : Word) (s : State) : Result :=
  readInstr 4 true (.absoluteX w) addA s

/-- `sub(M)` (R131). -/
def subA (m : Byte) (s : State) : State :=
  let r := sub s.a m s.p
  (s.setA r.1).setFlags r.2

/-- SBC IndirectX, 0xE1 (R131). -/
def execSbcIzx (b : Byte) (s : State) : Result :=
  readInstr 6 false (.indirectX b) subA s

/-- SBC Zeropage, 0xE5 (R131). -/
def execSbcZp (b : Byte) (s : State) : Result :=
  readInstr 3 false (.zeropage b) subA s

/-- SBC Immediate, 0xE9 (R131). -/
def execSbcImm (b : Byte) (s : State) : Result :=
  readInstr 2 false (.immediate b) subA s

/-- SBC Absolute, 0xED (R131). -/
def execSbcAbs (w : Word) (s : State) : Result :=
  readInstr 4 false (.absolute w) subA s

/-- SBC IndirectY, 0xF1 (R131). -/
def execSbcIzy (b : Byte) (s : State) : Result :=
  readInstr 5 true (.indirectY b) subA s

/-- SBC ZeropageX, 0xF5 (R131). -/
def execSbcZpx (b : Byte) (s : State) : Result :=
  readInstr 4 false (.zeropageX b) subA s

/-- SBC AbsoluteY, 0xF9 (R131). -/
def execSbcAby (w : Word) (s : State) : Result :=
  readInstr 4 true (.absoluteY w) subA s

/-- SBC AbsoluteX, 0xFD (R131). -/
def execSbcAbx (w : Word) (s : State) : Result :=
  readInstr 4 true (.absoluteX w) subA s

end Sys2Proof.Machine
end

