-- ==== Sys2Proof/Machine/Branch.lean ====
section
/-! DEFINITION. Conditional branches (43_control_flags_system.md section 1). -/

namespace Sys2Proof.Machine

/-- BPL Relative, 0x10 (R149). -/
def execBpl (off : Int) (s : State) : Result :=
  branchInstr 2 (!s.p.n) off s

/-- BMI Relative, 0x30 (R150). -/
def execBmi (off : Int) (s : State) : Result :=
  branchInstr 2 (s.p.n) off s

/-- BVC Relative, 0x50 (R151). -/
def execBvc (off : Int) (s : State) : Result :=
  branchInstr 2 (!s.p.v) off s

/-- BVS Relative, 0x70 (R152). -/
def execBvs (off : Int) (s : State) : Result :=
  branchInstr 2 (s.p.v) off s

/-- BCC Relative, 0x90 (R153). -/
def execBcc (off : Int) (s : State) : Result :=
  branchInstr 2 (!s.p.c) off s

/-- BCS Relative, 0xB0 (R154). -/
def execBcs (off : Int) (s : State) : Result :=
  branchInstr 2 (s.p.c) off s

/-- BNE Relative, 0xD0 (R155). -/
def execBne (off : Int) (s : State) : Result :=
  branchInstr 2 (!s.p.z) off s

/-- BEQ Relative, 0xF0 (R156). -/
def execBeq (off : Int) (s : State) : Result :=
  branchInstr 2 (s.p.z) off s

end Sys2Proof.Machine
end

