-- ==== Sys2Proof/Machine/Compare.lean ====
section
/-! DEFINITION. Compare: CMP CPX CPY (42_arith_logic_shift.md section 4). -/

namespace Sys2Proof.Machine

/-- `compare(A, M)` (R136). -/
def compareA (m : Byte) (s : State) : State := s.setFlags (compareFlags s.a m s.p)

/-- CMP IndirectX, 0xC1 (R136). -/
def execCmpIzx (b : Byte) (s : State) : Result :=
  readInstr 6 false (.indirectX b) compareA s

/-- CMP Zeropage, 0xC5 (R136). -/
def execCmpZp (b : Byte) (s : State) : Result :=
  readInstr 3 false (.zeropage b) compareA s

/-- CMP Immediate, 0xC9 (R136). -/
def execCmpImm (b : Byte) (s : State) : Result :=
  readInstr 2 false (.immediate b) compareA s

/-- CMP Absolute, 0xCD (R136). -/
def execCmpAbs (w : Word) (s : State) : Result :=
  readInstr 4 false (.absolute w) compareA s

/-- CMP IndirectY, 0xD1 (R136). -/
def execCmpIzy (b : Byte) (s : State) : Result :=
  readInstr 5 true (.indirectY b) compareA s

/-- CMP ZeropageX, 0xD5 (R136). -/
def execCmpZpx (b : Byte) (s : State) : Result :=
  readInstr 4 false (.zeropageX b) compareA s

/-- CMP AbsoluteY, 0xD9 (R136). -/
def execCmpAby (w : Word) (s : State) : Result :=
  readInstr 4 true (.absoluteY w) compareA s

/-- CMP AbsoluteX, 0xDD (R136). -/
def execCmpAbx (w : Word) (s : State) : Result :=
  readInstr 4 true (.absoluteX w) compareA s

/-- `compare(X, M)` (R137). -/
def compareX (m : Byte) (s : State) : State := s.setFlags (compareFlags s.x m s.p)

/-- CPX Immediate, 0xE0 (R137). -/
def execCpxImm (b : Byte) (s : State) : Result :=
  readInstr 2 false (.immediate b) compareX s

/-- CPX Zeropage, 0xE4 (R137). -/
def execCpxZp (b : Byte) (s : State) : Result :=
  readInstr 3 false (.zeropage b) compareX s

/-- CPX Absolute, 0xEC (R137). -/
def execCpxAbs (w : Word) (s : State) : Result :=
  readInstr 4 false (.absolute w) compareX s

/-- `compare(Y, M)` (R138). -/
def compareY (m : Byte) (s : State) : State := s.setFlags (compareFlags s.y m s.p)

/-- CPY Immediate, 0xC0 (R138). -/
def execCpyImm (b : Byte) (s : State) : Result :=
  readInstr 2 false (.immediate b) compareY s

/-- CPY Zeropage, 0xC4 (R138). -/
def execCpyZp (b : Byte) (s : State) : Result :=
  readInstr 3 false (.zeropage b) compareY s

/-- CPY Absolute, 0xCC (R138). -/
def execCpyAbs (w : Word) (s : State) : Result :=
  readInstr 4 false (.absolute w) compareY s

end Sys2Proof.Machine
end

