-- ==== Sys2Proof/Machine/IncDec.lean ====
section
/-! DEFINITION. Increment and decrement: INC DEC INX INY DEX DEY (42_arith_logic_shift.md section 5). -/

namespace Sys2Proof.Machine

/-- The incremented byte; no flag is written before the write (R139). -/
def incByte (m : Byte) (p : Flags) : Byte × Flags := (m + 1, p)

/-- The decremented byte; no flag is written before the write (R140). -/
def decByte (m : Byte) (p : Flags) : Byte × Flags := (m - 1, p)

/-- INC Zeropage, 0xE6 (R139). -/
def execIncZp (b : Byte) (s : State) : Result :=
  rmwInstr 5 (.zeropage b) incByte State.setNZ s

/-- INC Absolute, 0xEE (R139). -/
def execIncAbs (w : Word) (s : State) : Result :=
  rmwInstr 6 (.absolute w) incByte State.setNZ s

/-- INC ZeropageX, 0xF6 (R139). -/
def execIncZpx (b : Byte) (s : State) : Result :=
  rmwInstr 6 (.zeropageX b) incByte State.setNZ s

/-- INC AbsoluteX, 0xFE (R139). -/
def execIncAbx (w : Word) (s : State) : Result :=
  rmwInstr 7 (.absoluteX w) incByte State.setNZ s

/-- DEC Zeropage, 0xC6 (R140). -/
def execDecZp (b : Byte) (s : State) : Result :=
  rmwInstr 5 (.zeropage b) decByte State.setNZ s

/-- DEC Absolute, 0xCE (R140). -/
def execDecAbs (w : Word) (s : State) : Result :=
  rmwInstr 6 (.absolute w) decByte State.setNZ s

/-- DEC ZeropageX, 0xD6 (R140). -/
def execDecZpx (b : Byte) (s : State) : Result :=
  rmwInstr 6 (.zeropageX b) decByte State.setNZ s

/-- DEC AbsoluteX, 0xDE (R140). -/
def execDecAbx (w : Word) (s : State) : Result :=
  rmwInstr 7 (.absoluteX w) decByte State.setNZ s

/-- `X <- (X + 1) mod 256; set_nz(X)` (R141). -/
def incX (s : State) : State := (s.setX (s.x + 1)).setNZ (s.x + 1)

/-- INX Implied, 0xE8 (R141). -/
def execInx (s : State) : Result :=
  impliedInstr 2 incX s

/-- `Y <- (Y + 1) mod 256; set_nz(Y)` (R142). -/
def incY (s : State) : State := (s.setY (s.y + 1)).setNZ (s.y + 1)

/-- INY Implied, 0xC8 (R142). -/
def execIny (s : State) : Result :=
  impliedInstr 2 incY s

/-- `X <- (X - 1) mod 256; set_nz(X)` (R143). -/
def decX (s : State) : State := (s.setX (s.x - 1)).setNZ (s.x - 1)

/-- DEX Implied, 0xCA (R143). -/
def execDex (s : State) : Result :=
  impliedInstr 2 decX s

/-- `Y <- (Y - 1) mod 256; set_nz(Y)` (R144). -/
def decY (s : State) : State := (s.setY (s.y - 1)).setNZ (s.y - 1)

/-- DEY Implied, 0x88 (R144). -/
def execDey (s : State) : Result :=
  impliedInstr 2 decY s

end Sys2Proof.Machine
end

