-- ==== Sys2Proof/Machine/Logic.lean ====
section
/-! DEFINITION. Logic: AND ORA EOR BIT (42_arith_logic_shift.md section 3). -/

namespace Sys2Proof.Machine

/-- `A <- A AND M; set_nz(A)` (R132). -/
def andA (m : Byte) (s : State) : State := (s.setA (s.a &&& m)).setNZ (s.a &&& m)

/-- AND IndirectX, 0x21 (R132). -/
def execAndIzx (b : Byte) (s : State) : Result :=
  readInstr 6 false (.indirectX b) andA s

/-- AND Zeropage, 0x25 (R132). -/
def execAndZp (b : Byte) (s : State) : Result :=
  readInstr 3 false (.zeropage b) andA s

/-- AND Immediate, 0x29 (R132). -/
def execAndImm (b : Byte) (s : State) : Result :=
  readInstr 2 false (.immediate b) andA s

/-- AND Absolute, 0x2D (R132). -/
def execAndAbs (w : Word) (s : State) : Result :=
  readInstr 4 false (.absolute w) andA s

/-- AND IndirectY, 0x31 (R132). -/
def execAndIzy (b : Byte) (s : State) : Result :=
  readInstr 5 true (.indirectY b) andA s

/-- AND ZeropageX, 0x35 (R132). -/
def execAndZpx (b : Byte) (s : State) : Result :=
  readInstr 4 false (.zeropageX b) andA s

/-- AND AbsoluteY, 0x39 (R132). -/
def execAndAby (w : Word) (s : State) : Result :=
  readInstr 4 true (.absoluteY w) andA s

/-- AND AbsoluteX, 0x3D (R132). -/
def execAndAbx (w : Word) (s : State) : Result :=
  readInstr 4 true (.absoluteX w) andA s

/-- `A <- A OR M; set_nz(A)` (R133). -/
def oraA (m : Byte) (s : State) : State := (s.setA (s.a ||| m)).setNZ (s.a ||| m)

/-- ORA IndirectX, 0x01 (R133). -/
def execOraIzx (b : Byte) (s : State) : Result :=
  readInstr 6 false (.indirectX b) oraA s

/-- ORA Zeropage, 0x05 (R133). -/
def execOraZp (b : Byte) (s : State) : Result :=
  readInstr 3 false (.zeropage b) oraA s

/-- ORA Immediate, 0x09 (R133). -/
def execOraImm (b : Byte) (s : State) : Result :=
  readInstr 2 false (.immediate b) oraA s

/-- ORA Absolute, 0x0D (R133). -/
def execOraAbs (w : Word) (s : State) : Result :=
  readInstr 4 false (.absolute w) oraA s

/-- ORA IndirectY, 0x11 (R133). -/
def execOraIzy (b : Byte) (s : State) : Result :=
  readInstr 5 true (.indirectY b) oraA s

/-- ORA ZeropageX, 0x15 (R133). -/
def execOraZpx (b : Byte) (s : State) : Result :=
  readInstr 4 false (.zeropageX b) oraA s

/-- ORA AbsoluteY, 0x19 (R133). -/
def execOraAby (w : Word) (s : State) : Result :=
  readInstr 4 true (.absoluteY w) oraA s

/-- ORA AbsoluteX, 0x1D (R133). -/
def execOraAbx (w : Word) (s : State) : Result :=
  readInstr 4 true (.absoluteX w) oraA s

/-- `A <- A XOR M; set_nz(A)` (R134). -/
def eorA (m : Byte) (s : State) : State := (s.setA (s.a ^^^ m)).setNZ (s.a ^^^ m)

/-- EOR IndirectX, 0x41 (R134). -/
def execEorIzx (b : Byte) (s : State) : Result :=
  readInstr 6 false (.indirectX b) eorA s

/-- EOR Zeropage, 0x45 (R134). -/
def execEorZp (b : Byte) (s : State) : Result :=
  readInstr 3 false (.zeropage b) eorA s

/-- EOR Immediate, 0x49 (R134). -/
def execEorImm (b : Byte) (s : State) : Result :=
  readInstr 2 false (.immediate b) eorA s

/-- EOR Absolute, 0x4D (R134). -/
def execEorAbs (w : Word) (s : State) : Result :=
  readInstr 4 false (.absolute w) eorA s

/-- EOR IndirectY, 0x51 (R134). -/
def execEorIzy (b : Byte) (s : State) : Result :=
  readInstr 5 true (.indirectY b) eorA s

/-- EOR ZeropageX, 0x55 (R134). -/
def execEorZpx (b : Byte) (s : State) : Result :=
  readInstr 4 false (.zeropageX b) eorA s

/-- EOR AbsoluteY, 0x59 (R134). -/
def execEorAby (w : Word) (s : State) : Result :=
  readInstr 4 true (.absoluteY w) eorA s

/-- EOR AbsoluteX, 0x5D (R134). -/
def execEorAbx (w : Word) (s : State) : Result :=
  readInstr 4 true (.absoluteX w) eorA s

/-- `P.N <- M[7]; P.V <- M[6]; P.Z <- ((M AND A) = 0)` (R135). -/
def bitTest (m : Byte) (s : State) : State :=
  s.setFlags { s.p with n := m.getLsbD 7, v := m.getLsbD 6, z := m &&& s.a == 0 }

/-- BIT Zeropage, 0x24 (R135). -/
def execBitZp (b : Byte) (s : State) : Result :=
  readInstr 3 false (.zeropage b) bitTest s

/-- BIT Absolute, 0x2C (R135). -/
def execBitAbs (w : Word) (s : State) : Result :=
  readInstr 4 false (.absolute w) bitTest s

end Sys2Proof.Machine
end

