-- ==== Sys2Proof/Machine/Composite.lean ====
section
/-! DEFINITION. Undocumented composites: SLO RLA SRE RRA DCP ISB LAX SAX USBC (44_undocumented.md sections 1 and 2). -/

namespace Sys2Proof.Machine

/-- SLO IndirectX, 0x03 (R171). -/
def execSloIzx (b : Byte) (s : State) : Result :=
  rmwInstr 8 (.indirectX b) asl oraA s

/-- SLO Zeropage, 0x07 (R171). -/
def execSloZp (b : Byte) (s : State) : Result :=
  rmwInstr 5 (.zeropage b) asl oraA s

/-- SLO Absolute, 0x0F (R171). -/
def execSloAbs (w : Word) (s : State) : Result :=
  rmwInstr 6 (.absolute w) asl oraA s

/-- SLO IndirectY, 0x13 (R171). -/
def execSloIzy (b : Byte) (s : State) : Result :=
  rmwInstr 8 (.indirectY b) asl oraA s

/-- SLO ZeropageX, 0x17 (R171). -/
def execSloZpx (b : Byte) (s : State) : Result :=
  rmwInstr 6 (.zeropageX b) asl oraA s

/-- SLO AbsoluteY, 0x1B (R171). -/
def execSloAby (w : Word) (s : State) : Result :=
  rmwInstr 7 (.absoluteY w) asl oraA s

/-- SLO AbsoluteX, 0x1F (R171). -/
def execSloAbx (w : Word) (s : State) : Result :=
  rmwInstr 7 (.absoluteX w) asl oraA s

/-- RLA IndirectX, 0x23 (R172). -/
def execRlaIzx (b : Byte) (s : State) : Result :=
  rmwInstr 8 (.indirectX b) rol andA s

/-- RLA Zeropage, 0x27 (R172). -/
def execRlaZp (b : Byte) (s : State) : Result :=
  rmwInstr 5 (.zeropage b) rol andA s

/-- RLA Absolute, 0x2F (R172). -/
def execRlaAbs (w : Word) (s : State) : Result :=
  rmwInstr 6 (.absolute w) rol andA s

/-- RLA IndirectY, 0x33 (R172). -/
def execRlaIzy (b : Byte) (s : State) : Result :=
  rmwInstr 8 (.indirectY b) rol andA s

/-- RLA ZeropageX, 0x37 (R172). -/
def execRlaZpx (b : Byte) (s : State) : Result :=
  rmwInstr 6 (.zeropageX b) rol andA s

/-- RLA AbsoluteY, 0x3B (R172). -/
def execRlaAby (w : Word) (s : State) : Result :=
  rmwInstr 7 (.absoluteY w) rol andA s

/-- RLA AbsoluteX, 0x3F (R172). -/
def execRlaAbx (w : Word) (s : State) : Result :=
  rmwInstr 7 (.absoluteX w) rol andA s

/-- SRE IndirectX, 0x43 (R173). -/
def execSreIzx (b : Byte) (s : State) : Result :=
  rmwInstr 8 (.indirectX b) lsr eorA s

/-- SRE Zeropage, 0x47 (R173). -/
def execSreZp (b : Byte) (s : State) : Result :=
  rmwInstr 5 (.zeropage b) lsr eorA s

/-- SRE Absolute, 0x4F (R173). -/
def execSreAbs (w : Word) (s : State) : Result :=
  rmwInstr 6 (.absolute w) lsr eorA s

/-- SRE IndirectY, 0x53 (R173). -/
def execSreIzy (b : Byte) (s : State) : Result :=
  rmwInstr 8 (.indirectY b) lsr eorA s

/-- SRE ZeropageX, 0x57 (R173). -/
def execSreZpx (b : Byte) (s : State) : Result :=
  rmwInstr 6 (.zeropageX b) lsr eorA s

/-- SRE AbsoluteY, 0x5B (R173). -/
def execSreAby (w : Word) (s : State) : Result :=
  rmwInstr 7 (.absoluteY w) lsr eorA s

/-- SRE AbsoluteX, 0x5F (R173). -/
def execSreAbx (w : Word) (s : State) : Result :=
  rmwInstr 7 (.absoluteX w) lsr eorA s

/-- RRA IndirectX, 0x63 (R174). -/
def execRraIzx (b : Byte) (s : State) : Result :=
  rmwInstr 8 (.indirectX b) ror addA s

/-- RRA Zeropage, 0x67 (R174). -/
def execRraZp (b : Byte) (s : State) : Result :=
  rmwInstr 5 (.zeropage b) ror addA s

/-- RRA Absolute, 0x6F (R174). -/
def execRraAbs (w : Word) (s : State) : Result :=
  rmwInstr 6 (.absolute w) ror addA s

/-- RRA IndirectY, 0x73 (R174). -/
def execRraIzy (b : Byte) (s : State) : Result :=
  rmwInstr 8 (.indirectY b) ror addA s

/-- RRA ZeropageX, 0x77 (R174). -/
def execRraZpx (b : Byte) (s : State) : Result :=
  rmwInstr 6 (.zeropageX b) ror addA s

/-- RRA AbsoluteY, 0x7B (R174). -/
def execRraAby (w : Word) (s : State) : Result :=
  rmwInstr 7 (.absoluteY w) ror addA s

/-- RRA AbsoluteX, 0x7F (R174). -/
def execRraAbx (w : Word) (s : State) : Result :=
  rmwInstr 7 (.absoluteX w) ror addA s

/-- DCP IndirectX, 0xC3 (R175). -/
def execDcpIzx (b : Byte) (s : State) : Result :=
  rmwInstr 8 (.indirectX b) decByte compareA s

/-- DCP Zeropage, 0xC7 (R175). -/
def execDcpZp (b : Byte) (s : State) : Result :=
  rmwInstr 5 (.zeropage b) decByte compareA s

/-- DCP Absolute, 0xCF (R175). -/
def execDcpAbs (w : Word) (s : State) : Result :=
  rmwInstr 6 (.absolute w) decByte compareA s

/-- DCP IndirectY, 0xD3 (R175). -/
def execDcpIzy (b : Byte) (s : State) : Result :=
  rmwInstr 8 (.indirectY b) decByte compareA s

/-- DCP ZeropageX, 0xD7 (R175). -/
def execDcpZpx (b : Byte) (s : State) : Result :=
  rmwInstr 6 (.zeropageX b) decByte compareA s

/-- DCP AbsoluteY, 0xDB (R175). -/
def execDcpAby (w : Word) (s : State) : Result :=
  rmwInstr 7 (.absoluteY w) decByte compareA s

/-- DCP AbsoluteX, 0xDF (R175). -/
def execDcpAbx (w : Word) (s : State) : Result :=
  rmwInstr 7 (.absoluteX w) decByte compareA s

/-- ISB IndirectX, 0xE3 (R176). -/
def execIsbIzx (b : Byte) (s : State) : Result :=
  rmwInstr 8 (.indirectX b) incByte subA s

/-- ISB Zeropage, 0xE7 (R176). -/
def execIsbZp (b : Byte) (s : State) : Result :=
  rmwInstr 5 (.zeropage b) incByte subA s

/-- ISB Absolute, 0xEF (R176). -/
def execIsbAbs (w : Word) (s : State) : Result :=
  rmwInstr 6 (.absolute w) incByte subA s

/-- ISB IndirectY, 0xF3 (R176). -/
def execIsbIzy (b : Byte) (s : State) : Result :=
  rmwInstr 8 (.indirectY b) incByte subA s

/-- ISB ZeropageX, 0xF7 (R176). -/
def execIsbZpx (b : Byte) (s : State) : Result :=
  rmwInstr 6 (.zeropageX b) incByte subA s

/-- ISB AbsoluteY, 0xFB (R176). -/
def execIsbAby (w : Word) (s : State) : Result :=
  rmwInstr 7 (.absoluteY w) incByte subA s

/-- ISB AbsoluteX, 0xFF (R176). -/
def execIsbAbx (w : Word) (s : State) : Result :=
  rmwInstr 7 (.absoluteX w) incByte subA s

/-- `A <- M; X <- M; set_nz(M)` (R177). -/
def loadAX (m : Byte) (s : State) : State := ((s.setA m).setX m).setNZ m

/-- LAX IndirectX, 0xA3 (R177). -/
def execLaxIzx (b : Byte) (s : State) : Result :=
  readInstr 6 false (.indirectX b) loadAX s

/-- LAX Zeropage, 0xA7 (R177). -/
def execLaxZp (b : Byte) (s : State) : Result :=
  readInstr 3 false (.zeropage b) loadAX s

/-- LAX Absolute, 0xAF (R177). -/
def execLaxAbs (w : Word) (s : State) : Result :=
  readInstr 4 false (.absolute w) loadAX s

/-- LAX IndirectY, 0xB3 (R177). -/
def execLaxIzy (b : Byte) (s : State) : Result :=
  readInstr 5 true (.indirectY b) loadAX s

/-- LAX ZeropageY, 0xB7 (R177). -/
def execLaxZpy (b : Byte) (s : State) : Result :=
  readInstr 4 false (.zeropageY b) loadAX s

/-- LAX AbsoluteY, 0xBF (R177). -/
def execLaxAby (w : Word) (s : State) : Result :=
  readInstr 4 true (.absoluteY w) loadAX s

/-- SAX IndirectX, 0x83 (R178). -/
def execSaxIzx (b : Byte) (s : State) : Result :=
  writeInstr 6 (.indirectX b) (s.a &&& s.x) s

/-- SAX Zeropage, 0x87 (R178). -/
def execSaxZp (b : Byte) (s : State) : Result :=
  writeInstr 3 (.zeropage b) (s.a &&& s.x) s

/-- SAX Absolute, 0x8F (R178). -/
def execSaxAbs (w : Word) (s : State) : Result :=
  writeInstr 4 (.absolute w) (s.a &&& s.x) s

/-- SAX ZeropageY, 0x97 (R178). -/
def execSaxZpy (b : Byte) (s : State) : Result :=
  writeInstr 4 (.zeropageY b) (s.a &&& s.x) s

/-- USBC Immediate, 0xEB (R179). -/
def execUsbc (b : Byte) (s : State) : Result :=
  readInstr 2 false (.immediate b) subA s

end Sys2Proof.Machine
end

