-- ==== Sys2Proof/Machine/FlagOps.lean ====
section
/-! DEFINITION. Flag instructions: CLC SEC CLI SEI CLV CLD SED (43_control_flags_system.md section 4). -/

namespace Sys2Proof.Machine

/-- `P.C <- 0` (R163). -/
def clearC (s : State) : State := s.setFlags { s.p with c := false }

/-- CLC Implied, 0x18 (R163). -/
def execClc (s : State) : Result :=
  impliedInstr 2 clearC s

/-- `P.C <- 1` (R164). -/
def setC (s : State) : State := s.setFlags { s.p with c := true }

/-- SEC Implied, 0x38 (R164). -/
def execSec (s : State) : Result :=
  impliedInstr 2 setC s

/-- `P.I <- 0` (R165). -/
def clearI (s : State) : State := s.setFlags { s.p with i := false }

/-- CLI Implied, 0x58 (R165). -/
def execCli (s : State) : Result :=
  impliedInstr 2 clearI s

/-- `P.I <- 1` (R166). -/
def setI (s : State) : State := s.setFlags { s.p with i := true }

/-- SEI Implied, 0x78 (R166). -/
def execSei (s : State) : Result :=
  impliedInstr 2 setI s

/-- `P.V <- 0` (R167). -/
def clearV (s : State) : State := s.setFlags { s.p with v := false }

/-- CLV Implied, 0xB8 (R167). -/
def execClv (s : State) : Result :=
  impliedInstr 2 clearV s

/-- `P.D <- 0` (R168). -/
def clearD (s : State) : State := s.setFlags { s.p with d := false }

/-- CLD Implied, 0xD8 (R168). -/
def execCld (s : State) : Result :=
  impliedInstr 2 clearD s

/-- `P.D <- 1` (R169). -/
def setD (s : State) : State := s.setFlags { s.p with d := true }

/-- SED Implied, 0xF8 (R169). -/
def execSed (s : State) : Result :=
  impliedInstr 2 setD s

end Sys2Proof.Machine
end

