-- ==== Sys2Proof/Machine/Jam.lean ====
section
/-! DEFINITION. JAM, the halt opcodes (R181). -/

namespace Sys2Proof.Machine

/-- JAM Implied, 0x02 (R181). -/
def execJam02 (s : State) : Result :=
  jam s

/-- JAM Implied, 0x12 (R181). -/
def execJam12 (s : State) : Result :=
  jam s

/-- JAM Implied, 0x22 (R181). -/
def execJam22 (s : State) : Result :=
  jam s

/-- JAM Implied, 0x32 (R181). -/
def execJam32 (s : State) : Result :=
  jam s

/-- JAM Implied, 0x42 (R181). -/
def execJam42 (s : State) : Result :=
  jam s

/-- JAM Implied, 0x52 (R181). -/
def execJam52 (s : State) : Result :=
  jam s

/-- JAM Implied, 0x62 (R181). -/
def execJam62 (s : State) : Result :=
  jam s

/-- JAM Implied, 0x72 (R181). -/
def execJam72 (s : State) : Result :=
  jam s

/-- JAM Implied, 0x92 (R181). -/
def execJam92 (s : State) : Result :=
  jam s

/-- JAM Implied, 0xB2 (R181). -/
def execJamB2 (s : State) : Result :=
  jam s

/-- JAM Implied, 0xD2 (R181). -/
def execJamD2 (s : State) : Result :=
  jam s

/-- JAM Implied, 0xF2 (R181). -/
def execJamF2 (s : State) : Result :=
  jam s

end Sys2Proof.Machine
end

