-- ==== Sys2Proof/Machine/Jump.lean ====
section
/-! DEFINITION. Jumps and subroutines: JMP JSR RTS (43_control_flags_system.md section 2). -/

namespace Sys2Proof.Machine

/-- `PC <- ` the EA of JMP (R158). -/
def jumpTo (o : Operand) (s : State) : State :=
  let e := effectiveAddress false o s
  e.2.setPc e.1

/-- JMP Absolute, 0x4C (R158). -/
def execJmpAbs (w : Word) (s : State) : Result :=
  transferInstr 3 3 (jumpTo (.absolute w)) s

/-- JMP Indirect, 0x6C (R158). -/
def execJmpInd (w : Word) (s : State) : Result :=
  transferInstr 3 5 (jumpTo (.indirect w)) s

/-- Read the operand, push the address of JSR's last byte, jump (R159). -/
def callSubroutine (w : Word) (s : State) : State :=
  (push16 (s.pc + 1) (fetchOperand16 s)).setPc w

/-- JSR Absolute, 0x20 (R159). -/
def execJsr (w : Word) (s : State) : Result :=
  transferInstr 3 6 (callSubroutine w) s

/-- `PC <- (pop16() + 1) mod 0x10000` (R160). -/
def returnFromSubroutine (s : State) : State :=
  let t := pop16 s
  t.2.setPc (t.1 + 1)

/-- RTS Implied, 0x60 (R160). -/
def execRts (s : State) : Result :=
  transferInstr 1 6 returnFromSubroutine s

end Sys2Proof.Machine
end

