-- ==== Sys2Proof/Machine/LoadStore.lean ====
section
/-! DEFINITION. Loads and stores: LDA LDX LDY STA STX STY (41_load_store_transfer.md sections 1 and 2). -/

namespace Sys2Proof.Machine

/-- `A <- M; set_nz(A)` (R113). -/
def loadA (m : Byte) (s : State) : State := (s.setA m).setNZ m

/-- LDA IndirectX, 0xA1 (R113). -/
def execLdaIzx (b : Byte) (s : State) : Result :=
  readInstr 6 false (.indirectX b) loadA s

/-- LDA Zeropage, 0xA5 (R113). -/
def execLdaZp (b : Byte) (s : State) : Result :=
  readInstr 3 false (.zeropage b) loadA s

/-- LDA Immediate, 0xA9 (R113). -/
def execLdaImm (b : Byte) (s : State) : Result :=
  readInstr 2 false (.immediate b) loadA s

/-- LDA Absolute, 0xAD (R113). -/
def execLdaAbs (w : Word) (s : State) : Result :=
  readInstr 4 false (.absolute w) loadA s

/-- LDA IndirectY, 0xB1 (R113). -/
def execLdaIzy (b : Byte) (s : State) : Result :=
  readInstr 5 true (.indirectY b) loadA s

/-- LDA ZeropageX, 0xB5 (R113). -/
def execLdaZpx (b : Byte) (s : State) : Result :=
  readInstr 4 false (.zeropageX b) loadA s

/-- LDA AbsoluteY, 0xB9 (R113). -/
def execLdaAby (w : Word) (s : State) : Result :=
  readInstr 4 true (.absoluteY w) loadA s

/-- LDA AbsoluteX, 0xBD (R113). -/
def execLdaAbx (w : Word) (s : State) : Result :=
  readInstr 4 true (.absoluteX w) loadA s

/-- `X <- M; set_nz(X)` (R114). -/
def loadX (m : Byte) (s : State) : State := (s.setX m).setNZ m

/-- LDX Immediate, 0xA2 (R114). -/
def execLdxImm (b : Byte) (s : State) : Result :=
  readInstr 2 false (.immediate b) loadX s

/-- LDX Zeropage, 0xA6 (R114). -/
def execLdxZp (b : Byte) (s : State) : Result :=
  readInstr 3 false (.zeropage b) loadX s

/-- LDX Absolute, 0xAE (R114). -/
def execLdxAbs (w : Word) (s : State) : Result :=
  readInstr 4 false (.absolute w) loadX s

/-- LDX ZeropageY, 0xB6 (R114). -/
def execLdxZpy (b : Byte) (s : State) : Result :=
  readInstr 4 false (.zeropageY b) loadX s

/-- LDX AbsoluteY, 0xBE (R114). -/
def execLdxAby (w : Word) (s : State) : Result :=
  readInstr 4 true (.absoluteY w) loadX s

/-- `Y <- M; set_nz(Y)` (R115). -/
def loadY (m : Byte) (s : State) : State := (s.setY m).setNZ m

/-- LDY Immediate, 0xA0 (R115). -/
def execLdyImm (b : Byte) (s : State) : Result :=
  readInstr 2 false (.immediate b) loadY s

/-- LDY Zeropage, 0xA4 (R115). -/
def execLdyZp (b : Byte) (s : State) : Result :=
  readInstr 3 false (.zeropage b) loadY s

/-- LDY Absolute, 0xAC (R115). -/
def execLdyAbs (w : Word) (s : State) : Result :=
  readInstr 4 false (.absolute w) loadY s

/-- LDY ZeropageX, 0xB4 (R115). -/
def execLdyZpx (b : Byte) (s : State) : Result :=
  readInstr 4 false (.zeropageX b) loadY s

/-- LDY AbsoluteX, 0xBC (R115). -/
def execLdyAbx (w : Word) (s : State) : Result :=
  readInstr 4 true (.absoluteX w) loadY s

/-- STA IndirectX, 0x81 (R116). -/
def execStaIzx (b : Byte) (s : State) : Result :=
  writeInstr 6 (.indirectX b) s.a s

/-- STA Zeropage, 0x85 (R116). -/
def execStaZp (b : Byte) (s : State) : Result :=
  writeInstr 3 (.zeropage b) s.a s

/-- STA Absolute, 0x8D (R116). -/
def execStaAbs (w : Word) (s : State) : Result :=
  writeInstr 4 (.absolute w) s.a s

/-- STA IndirectY, 0x91 (R116). -/
def execStaIzy (b : Byte) (s : State) : Result :=
  writeInstr 6 (.indirectY b) s.a s

/-- STA ZeropageX, 0x95 (R116). -/
def execStaZpx (b : Byte) (s : State) : Result :=
  writeInstr 4 (.zeropageX b) s.a s

/-- STA AbsoluteY, 0x99 (R116). -/
def execStaAby (w : Word) (s : State) : Result :=
  writeInstr 5 (.absoluteY w) s.a s

/-- STA AbsoluteX, 0x9D (R116). -/
def execStaAbx (w : Word) (s : State) : Result :=
  writeInstr 5 (.absoluteX w) s.a s

/-- STX Zeropage, 0x86 (R117). -/
def execStxZp (b : Byte) (s : State) : Result :=
  writeInstr 3 (.zeropage b) s.x s

/-- STX Absolute, 0x8E (R117). -/
def execStxAbs (w : Word) (s : State) : Result :=
  writeInstr 4 (.absolute w) s.x s

/-- STX ZeropageY, 0x96 (R117). -/
def execStxZpy (b : Byte) (s : State) : Result :=
  writeInstr 4 (.zeropageY b) s.x s

/-- STY Zeropage, 0x84 (R118). -/
def execStyZp (b : Byte) (s : State) : Result :=
  writeInstr 3 (.zeropage b) s.y s

/-- STY Absolute, 0x8C (R118). -/
def execStyAbs (w : Word) (s : State) : Result :=
  writeInstr 4 (.absolute w) s.y s

/-- STY ZeropageX, 0x94 (R118). -/
def execStyZpx (b : Byte) (s : State) : Result :=
  writeInstr 4 (.zeropageX b) s.y s

end Sys2Proof.Machine
end

