-- ==== Sys2Proof/Machine/Nop.lean ====
section
/-! DEFINITION. NOP, documented and undocumented (R170, R180). -/

namespace Sys2Proof.Machine

/-- NOP Zeropage, 0x04 (R180). -/
def execNopZp04 (b : Byte) (s : State) : Result :=
  nopMemoryInstr 3 false (.zeropage b) s

/-- NOP Absolute, 0x0C (R180). -/
def execNopAbs (w : Word) (s : State) : Result :=
  nopMemoryInstr 4 false (.absolute w) s

/-- NOP ZeropageX, 0x14 (R180). -/
def execNopZpx14 (b : Byte) (s : State) : Result :=
  nopMemoryInstr 4 false (.zeropageX b) s

/-- NOP Implied, 0x1A (R180). -/
def execNopImp1A (s : State) : Result :=
  skipInstr 1 2 s

/-- NOP AbsoluteX, 0x1C (R180). -/
def execNopAbx1C (w : Word) (s : State) : Result :=
  nopMemoryInstr 4 true (.absoluteX w) s

/-- NOP ZeropageX, 0x34 (R180). -/
def execNopZpx34 (b : Byte) (s : State) : Result :=
  nopMemoryInstr 4 false (.zeropageX b) s

/-- NOP Implied, 0x3A (R180). -/
def execNopImp3A (s : State) : Result :=
  skipInstr 1 2 s

/-- NOP AbsoluteX, 0x3C (R180). -/
def execNopAbx3C (w : Word) (s : State) : Result :=
  nopMemoryInstr 4 true (.absoluteX w) s

/-- NOP Zeropage, 0x44 (R180). -/
def execNopZp44 (b : Byte) (s : State) : Result :=
  nopMemoryInstr 3 false (.zeropage b) s

/-- NOP ZeropageX, 0x54 (R180). -/
def execNopZpx54 (b : Byte) (s : State) : Result :=
  nopMemoryInstr 4 false (.zeropageX b) s

/-- NOP Implied, 0x5A (R180). -/
def execNopImp5A (s : State) : Result :=
  skipInstr 1 2 s

/-- NOP AbsoluteX, 0x5C (R180). -/
def execNopAbx5C (w : Word) (s : State) : Result :=
  nopMemoryInstr 4 true (.absoluteX w) s

/-- NOP Zeropage, 0x64 (R180). -/
def execNopZp64 (b : Byte) (s : State) : Result :=
  nopMemoryInstr 3 false (.zeropage b) s

/-- NOP ZeropageX, 0x74 (R180). -/
def execNopZpx74 (b : Byte) (s : State) : Result :=
  nopMemoryInstr 4 false (.zeropageX b) s

/-- NOP Implied, 0x7A (R180). -/
def execNopImp7A (s : State) : Result :=
  skipInstr 1 2 s

/-- NOP AbsoluteX, 0x7C (R180). -/
def execNopAbx7C (w : Word) (s : State) : Result :=
  nopMemoryInstr 4 true (.absoluteX w) s

/-- NOP Immediate, 0x80 (R180). -/
def execNopImm80 (_b : Byte) (s : State) : Result :=
  skipInstr 2 2 s

/-- NOP Immediate, 0x82 (R180). -/
def execNopImm82 (_b : Byte) (s : State) : Result :=
  skipInstr 2 2 s

/-- NOP Immediate, 0x89 (R180). -/
def execNopImm89 (_b : Byte) (s : State) : Result :=
  skipInstr 2 2 s

/-- NOP Immediate, 0xC2 (R180). -/
def execNopImmC2 (_b : Byte) (s : State) : Result :=
  skipInstr 2 2 s

/-- NOP ZeropageX, 0xD4 (R180). -/
def execNopZpxD4 (b : Byte) (s : State) : Result :=
  nopMemoryInstr 4 false (.zeropageX b) s

/-- NOP Implied, 0xDA (R180). -/
def execNopImpDA (s : State) : Result :=
  skipInstr 1 2 s

/-- NOP AbsoluteX, 0xDC (R180). -/
def execNopAbxDC (w : Word) (s : State) : Result :=
  nopMemoryInstr 4 true (.absoluteX w) s

/-- NOP Immediate, 0xE2 (R180). -/
def execNopImmE2 (_b : Byte) (s : State) : Result :=
  skipInstr 2 2 s

/-- NOP Implied, 0xEA (R170). -/
def execNop (s : State) : Result :=
  skipInstr 1 2 s

/-- NOP ZeropageX, 0xF4 (R180). -/
def execNopZpxF4 (b : Byte) (s : State) : Result :=
  nopMemoryInstr 4 false (.zeropageX b) s

/-- NOP Implied, 0xFA (R180). -/
def execNopImpFA (s : State) : Result :=
  skipInstr 1 2 s

/-- NOP AbsoluteX, 0xFC (R180). -/
def execNopAbxFC (w : Word) (s : State) : Result :=
  nopMemoryInstr 4 true (.absoluteX w) s

end Sys2Proof.Machine
end

