-- ==== Sys2Proof/Machine/Shift.lean ====
section
/-! DEFINITION. Shifts and rotates: ASL LSR ROL ROR, accumulator and memory forms (42_arith_logic_shift.md section 6). -/

namespace Sys2Proof.Machine

/-- The accumulator form of a shift: `A <- op(A)` (R145 to R148). -/
def shiftA (op : Byte → Flags → Byte × Flags) (s : State) : State :=
  let r := op s.a s.p
  (s.setA r.1).setFlags r.2

/-- The memory form of a shift does nothing more with its result (R145 to R148). -/
def noMore (_ : Byte) (s : State) : State := s

/-- ASL Zeropage, 0x06 (R145). -/
def execAslZp (b : Byte) (s : State) : Result :=
  rmwInstr 5 (.zeropage b) asl noMore s

/-- ASL Implied, 0x0A (R145). -/
def execAslImp (s : State) : Result :=
  impliedInstr 2 (shiftA asl) s

/-- ASL Absolute, 0x0E (R145). -/
def execAslAbs (w : Word) (s : State) : Result :=
  rmwInstr 6 (.absolute w) asl noMore s

/-- ASL ZeropageX, 0x16 (R145). -/
def execAslZpx (b : Byte) (s : State) : Result :=
  rmwInstr 6 (.zeropageX b) asl noMore s

/-- ASL AbsoluteX, 0x1E (R145). -/
def execAslAbx (w : Word) (s : State) : Result :=
  rmwInstr 7 (.absoluteX w) asl noMore s

/-- LSR Zeropage, 0x46 (R146). -/
def execLsrZp (b : Byte) (s : State) : Result :=
  rmwInstr 5 (.zeropage b) lsr noMore s

/-- LSR Implied, 0x4A (R146). -/
def execLsrImp (s : State) : Result :=
  impliedInstr 2 (shiftA lsr) s

/-- LSR Absolute, 0x4E (R146). -/
def execLsrAbs (w : Word) (s : State) : Result :=
  rmwInstr 6 (.absolute w) lsr noMore s

/-- LSR ZeropageX, 0x56 (R146). -/
def execLsrZpx (b : Byte) (s : State) : Result :=
  rmwInstr 6 (.zeropageX b) lsr noMore s

/-- LSR AbsoluteX, 0x5E (R146). -/
def execLsrAbx (w : Word) (s : State) : Result :=
  rmwInstr 7 (.absoluteX w) lsr noMore s

/-- ROL Zeropage, 0x26 (R147). -/
def execRolZp (b : Byte) (s : State) : Result :=
  rmwInstr 5 (.zeropage b) rol noMore s

/-- ROL Implied, 0x2A (R147). -/
def execRolImp (s : State) : Result :=
  impliedInstr 2 (shiftA rol) s

/-- ROL Absolute, 0x2E (R147). -/
def execRolAbs (w : Word) (s : State) : Result :=
  rmwInstr 6 (.absolute w) rol noMore s

/-- ROL ZeropageX, 0x36 (R147). -/
def execRolZpx (b : Byte) (s : State) : Result :=
  rmwInstr 6 (.zeropageX b) rol noMore s

/-- ROL AbsoluteX, 0x3E (R147). -/
def execRolAbx (w : Word) (s : State) : Result :=
  rmwInstr 7 (.absoluteX w) rol noMore s

/-- ROR Zeropage, 0x66 (R148). -/
def execRorZp (b : Byte) (s : State) : Result :=
  rmwInstr 5 (.zeropage b) ror noMore s

/-- ROR Implied, 0x6A (R148). -/
def execRorImp (s : State) : Result :=
  impliedInstr 2 (shiftA ror) s

/-- ROR Absolute, 0x6E (R148). -/
def execRorAbs (w : Word) (s : State) : Result :=
  rmwInstr 6 (.absolute w) ror noMore s

/-- ROR ZeropageX, 0x76 (R148). -/
def execRorZpx (b : Byte) (s : State) : Result :=
  rmwInstr 6 (.zeropageX b) ror noMore s

/-- ROR AbsoluteX, 0x7E (R148). -/
def execRorAbx (w : Word) (s : State) : Result :=
  rmwInstr 7 (.absoluteX w) ror noMore s

end Sys2Proof.Machine
end

