-- ==== Sys2Proof/Machine/Stack.lean ====
section
/-! DEFINITION. Stack instructions: PHA PLA PHP PLP (41_load_store_transfer.md section 4). -/

namespace Sys2Proof.Machine

/-- `push8(A)` (R125). -/
def pushA (s : State) : State := push8 s.a s

/-- PHA Implied, 0x48 (R125). -/
def execPha (s : State) : Result :=
  impliedInstr 3 pushA s

/-- `A <- pop8(); set_nz(A)` (R126). -/
def pullA (s : State) : State :=
  let m := pop8 s
  (m.2.setA m.1).setNZ m.1

/-- PLA Implied, 0x68 (R126). -/
def execPla (s : State) : Result :=
  impliedInstr 4 pullA s

/-- `push8(pack(P, 1))` (R127). -/
def pushP (s : State) : State := push8 (pack s.p true) s

/-- PHP Implied, 0x08 (R127). -/
def execPhp (s : State) : Result :=
  impliedInstr 3 pushP s

/-- `unpack(pop8())` (R128). -/
def pullP (s : State) : State :=
  let m := pop8 s
  m.2.setFlags (unpack m.1 m.2.p)

/-- PLP Implied, 0x28 (R128). -/
def execPlp (s : State) : Result :=
  impliedInstr 4 pullP s

end Sys2Proof.Machine
end

