-- ==== Sys2Proof/Machine/Stub.lean ====
section
/-! DEFINITION. The stable stubs: ANC ALR ARR SBX LAS, with their `Nmos` effects (44_undocumented.md section 5). -/

namespace Sys2Proof.Machine

/-- `A <- A AND M; set_nz(A); P.C <- A[7]` (R182). -/
def ancA (m : Byte) (s : State) : State :=
  let v := s.a &&& m
  (s.setA v).setFlags (setNZ v { s.p with c := v.getLsbD 7 })

/-- ANC Immediate, 0x0B (R182). -/
def execAncImm0B (b : Byte) (s : State) : Result :=
  stubInstr 0x0B 2 false (.immediate b) ancA s

/-- ANC Immediate, 0x2B (R182). -/
def execAncImm2B (b : Byte) (s : State) : Result :=
  stubInstr 0x2B 2 false (.immediate b) ancA s

/-- `A <- A AND M; A <- lsr(A)` (R183). -/
def alrA (m : Byte) (s : State) : State :=
  let r := lsr (s.a &&& m) s.p
  (s.setA r.1).setFlags r.2

/-- ALR Immediate, 0x4B (R183). -/
def execAlr (b : Byte) (s : State) : Result :=
  stubInstr 0x4B 2 false (.immediate b) alrA s

/-- `t <- A AND M; A <- (t >> 1) OR (P.C << 7); set_nz(A); P.C <- A[6]; P.V <- A[6] XOR A[5]` (R184). -/
def arrA (m : Byte) (s : State) : State :=
  let v := ((s.a &&& m) >>> 1) ||| flagAt s.p.c 7
  (s.setA v).setFlags (setNZ v { s.p with c := v.getLsbD 6, v := v.getLsbD 6 ^^ v.getLsbD 5 })

/-- ARR Immediate, 0x6B (R184). -/
def execArr (b : Byte) (s : State) : Result :=
  stubInstr 0x6B 2 false (.immediate b) arrA s

/-- `t <- A AND X; X <- (t - M) mod 256; P.C <- (M ≤ t); set_nz(X)` (R185). -/
def sbxX (m : Byte) (s : State) : State :=
  let t := s.a &&& s.x
  (s.setX (t - m)).setFlags (compareFlags t m s.p)

/-- SBX Immediate, 0xCB (R185). -/
def execSbx (b : Byte) (s : State) : Result :=
  stubInstr 0xCB 2 false (.immediate b) sbxX s

/-- `v <- M AND SP; A <- v; X <- v; SP <- v; set_nz(v)` (R186). -/
def lasAll (m : Byte) (s : State) : State :=
  let v := m &&& s.sp
  (((s.setA v).setX v).setSp v).setNZ v

/-- LAS AbsoluteY, 0xBB (R186). -/
def execLas (w : Word) (s : State) : Result :=
  stubInstr 0xBB 4 true (.absoluteY w) lasAll s

end Sys2Proof.Machine
end

