-- ==== Sys2Proof/Machine/System.lean ====
section
/-! DEFINITION. BRK and RTI (43_control_flags_system.md section 3). -/

namespace Sys2Proof.Machine

/-- BRK pushes PC + 1, the address after its padding byte, and the flags with break set (R161). -/
def softwareInterrupt (s : State) : State := takeInterrupt (s.pc + 1) true 0xFFFE s

/-- BRK Implied, 0x00 (R161). -/
def execBrk (s : State) : Result :=
  transferInstr 1 7 softwareInterrupt s

/-- RTI Implied, 0x40 (R162). -/
def execRti (s : State) : Result :=
  transferInstr 1 6 returnFromInterrupt s

end Sys2Proof.Machine
end

