-- ==== Sys2Proof/Machine/Transfer.lean ====
section
/-! DEFINITION. Register transfers: TAX TAY TXA TYA TSX TXS (41_load_store_transfer.md section 3). -/

namespace Sys2Proof.Machine

/-- `X <- A; set_nz(X)` (R119). -/
def transferAX (s : State) : State := (s.setX s.a).setNZ s.a

/-- TAX Implied, 0xAA (R119). -/
def execTax (s : State) : Result :=
  impliedInstr 2 transferAX s

/-- `Y <- A; set_nz(Y)` (R120). -/
def transferAY (s : State) : State := (s.setY s.a).setNZ s.a

/-- TAY Implied, 0xA8 (R120). -/
def execTay (s : State) : Result :=
  impliedInstr 2 transferAY s

/-- `A <- X; set_nz(A)` (R121). -/
def transferXA (s : State) : State := (s.setA s.x).setNZ s.x

/-- TXA Implied, 0x8A (R121). -/
def execTxa (s : State) : Result :=
  impliedInstr 2 transferXA s

/-- `A <- Y; set_nz(A)` (R122). -/
def transferYA (s : State) : State := (s.setA s.y).setNZ s.y

/-- TYA Implied, 0x98 (R122). -/
def execTya (s : State) : Result :=
  impliedInstr 2 transferYA s

/-- `X <- SP; set_nz(X)` (R123). -/
def transferSX (s : State) : State := (s.setX s.sp).setNZ s.sp

/-- TSX Implied, 0xBA (R123). -/
def execTsx (s : State) : Result :=
  impliedInstr 2 transferSX s

/-- `SP <- X` (R124, the one transfer that writes no flag). -/
def transferXS (s : State) : State := s.setSp s.x

/-- TXS Implied, 0x9A (R124). -/
def execTxs (s : State) : Result :=
  impliedInstr 2 transferXS s

end Sys2Proof.Machine
end

