-- ==== Sys2Proof/Machine/Unstable.lean ====
section
/-! DEFINITION. The unstable stubs, refused under either policy (44_undocumented.md section 6). -/

namespace Sys2Proof.Machine

/-- ANE Immediate, 0x8B (R187). -/
def execAne (_b : Byte) (s : State) : Result :=
  unstableInstr 0x8B 2 s

/-- LXA Immediate, 0xAB (R188). -/
def execLxa (_b : Byte) (s : State) : Result :=
  unstableInstr 0xAB 2 s

/-- SHA IndirectY, 0x93 (R189). -/
def execShaIzy (_b : Byte) (s : State) : Result :=
  unstableInstr 0x93 6 s

/-- SHA AbsoluteY, 0x9F (R189). -/
def execShaAby (_w : Word) (s : State) : Result :=
  unstableInstr 0x9F 5 s

/-- SHX AbsoluteY, 0x9E (R190). -/
def execShx (_w : Word) (s : State) : Result :=
  unstableInstr 0x9E 5 s

/-- SHY AbsoluteX, 0x9C (R191). -/
def execShy (_w : Word) (s : State) : Result :=
  unstableInstr 0x9C 5 s

/-- TAS AbsoluteY, 0x9B (R192). -/
def execTas (_w : Word) (s : State) : Result :=
  unstableInstr 0x9B 5 s

end Sys2Proof.Machine
end

