-- ==== Sys2Proof/Machine/Fetch.lean ====
section
/-! DEFINITION. Fetching an instruction (R68, R85) and placing one where the next fetch finds it. -/

namespace Sys2Proof.Machine

/-- The opcode fetch: `op <- read(PC)` with its side effects, then PC + 1 (R85). -/
def fetchOpcode (s : State) : Byte × State :=
  let q := busRead s.pc s
  (q.1, q.2.setPc (q.2.pc + 1))

/-- The two bytes at PC and PC + 1 as bus reads would give them. Their side effects are left to the meaning, which
reads the operand bytes it needs (log 9). -/
def peekOperandBytes (s : State) : List Byte :=
  let l := busRead s.pc s
  let h := busRead (s.pc + 1) l.2
  [l.1, h.1]

/-- The instruction at PC, and the state with PC past its opcode byte. -/
def fetch (s : State) : Except DecodeError Instr × State :=
  let q := fetchOpcode s
  match decode (q.1 :: peekOperandBytes q.2) with
  | .ok r => (.ok r.1, q.2)
  | .error e => (.error e, q.2)

/-- Is the byte at `a` plain storage that a loader can set? -/
def isStorage (s : State) (a : Word) : Bool :=
  match s.region a with
  | .wram _ | .apu _ | .prg _ | .ram _ => true
  | .ppu _ | .oamDma | .pad1 | .pad2 | .unlisted | .openBus => false

/-- The byte `v` in the storage behind `a`, PRG ROM included: a load from outside the machine, not a bus write. -/
def placeByte (s : State) (a : Word) (v : Byte) : State :=
  match s.region a with
  | .wram off => s.setWram (s.wram.write off v)
  | .apu k => s.setApu (s.apu.write k v)
  | .prg off => s.setCart { s.cart with prg := s.cart.prg.write off v }
  | .ram k => s.setRam (s.ram.write k v)
  | .ppu _ | .oamDma | .pad1 | .pad2 | .unlisted | .openBus => s

/-- The state in which the next step fetches: not halted, unmarked, no interrupt due (R85, R196, R202). -/
def clearForFetch (s : State) : State :=
  ((((s.setHalted false).setRefused none).setFaulted none).setNmiPending false).setIrqPending
    (s.irqPending && s.p.i)

/-- PC where the three bytes from it are storage; else the start of work RAM (log 26). -/
def aimFetch (s : State) : State :=
  if isStorage s s.pc && isStorage s (s.pc + 1) && isStorage s (s.pc + 2) then s else s.setPc 0x0000

/-- Three bytes at PC and after it. -/
def placeBytes (bytes : List Byte) (s : State) : State :=
  match bytes with
  | [b0, b1, b2] => placeByte (placeByte (placeByte s s.pc b0) (s.pc + 1) b1) (s.pc + 2) b2
  | _ => s

end Sys2Proof.Machine
end

