-- ==== Sys2Proof/Machine/SystemStep.lean ====
section
/-! DEFINITION. The CPU step (R85, R202) and the system step that couples it to the PPU (R211). -/

namespace Sys2Proof.Machine

/-- Fetch one instruction and run it (R85). -/
def runInstruction (s : State) : Result :=
  let q := fetch s
  match q.1 with
  | .ok i => exec i q.2
  | .error _ => .fault (.unimplementedOpcode (fetchOpcode s).1)

/-- `cpu_step()` (R85): halted, or NMI, or an unmasked IRQ, or one instruction (R202). -/
def cpuStep (s : State) : Result :=
  if s.halted then .next s
  else if s.nmiPending then .next (serviceNmi s)
  else if s.irqPending && !s.p.i then .next (serviceIrq s)
  else runInstruction s

/-- What follows the CPU step under `Nes` (R211): the PPU ticks by three times the cycles elapsed since `c0`, and its
NMI output moves into the CPU's latch. Under `FlatRam` there is no PPU. -/
def couplePpu (c0 : Nat) (s : State) : State :=
  match s.params.busVariant with
  | .flatRam => s
  | .nes =>
    let q := ppuTick s.cart (3 * (s.cycles - c0)) s.ppu
    if q.nmiOut then (s.setPpu { q with nmiOut := false }).setNmiPending true else s.setPpu q

/-- A step that ends with a mark has no PPU tick (R196, R211). -/
def afterCpu (c0 : Nat) (r : Result) : Result :=
  match r with
  | .next s => .next (couplePpu c0 s)
  | .fault f => .fault f
  | .refused f => .refused f

/-- `system_step()` (R211). A marked state has no step (R196). -/
def systemStep (s : State) : Result :=
  match s.faulted with
  | some a => .fault (.alreadyFaulted a)
  | none =>
    match s.refused with
    | some op => .refused (.alreadyRefused op)
    | none => afterCpu s.cycles (cpuStep s)

end Sys2Proof.Machine
end

