-- ==== Sys2Proof/Machine/Step.lean ====
section
/-! DEFINITION. One step of the machine, and the host's probe of a single instruction. -/

namespace Sys2Proof.Machine

/-- One system step (R211). -/
def step (s : State) : Host.Outcome State Fault Refusal := systemStep s

/-- The instruction of table word `w` placed where the next step fetches, all that step needs to run it (log 26). -/
def State.withFetchWord (s : State) (nbits w : Nat) : State :=
  placeBytes (tableBytes (w % 2 ^ nbits)) (aimFetch (clearForFetch s))

end Sys2Proof.Machine
end

