-- ==== Sys2Proof/Machine/Assembler.lean ====
section
/-! DEFINITION. The assembler (30_encoding.md section 4): lexer R77, grammar R78, opcode resolution R79, branch operands
R80, the two passes R81 and R82, errors R83. It works on the characters of the source text. -/

namespace Sys2Proof.Machine

/-- The kinds of `ParseError` (R83). -/
inductive ParseError where
  | unexpectedToken
  | invalidMnemonic
  | invalidMode
  | unresolvedLabel
  | badHexLiteral
  | duplicateLabel
  | branchOutOfRange
  deriving DecidableEq, Repr

/-- The letters of a mnemonic, as the opcode table spells it. -/
def letters : Mnemonic → List Char
  | .adc => ['A', 'D', 'C']
  | .alr => ['A', 'L', 'R']
  | .anc => ['A', 'N', 'C']
  | .and => ['A', 'N', 'D']
  | .ane => ['A', 'N', 'E']
  | .arr => ['A', 'R', 'R']
  | .asl => ['A', 'S', 'L']
  | .bcc => ['B', 'C', 'C']
  | .bcs => ['B', 'C', 'S']
  | .beq => ['B', 'E', 'Q']
  | .bit => ['B', 'I', 'T']
  | .bmi => ['B', 'M', 'I']
  | .bne => ['B', 'N', 'E']
  | .bpl => ['B', 'P', 'L']
  | .brk => ['B', 'R', 'K']
  | .bvc => ['B', 'V', 'C']
  | .bvs => ['B', 'V', 'S']
  | .clc => ['C', 'L', 'C']
  | .cld => ['C', 'L', 'D']
  | .cli => ['C', 'L', 'I']
  | .clv => ['C', 'L', 'V']
  | .cmp => ['C', 'M', 'P']
  | .cpx => ['C', 'P', 'X']
  | .cpy => ['C', 'P', 'Y']
  | .dcp => ['D', 'C', 'P']
  | .dec => ['D', 'E', 'C']
  | .dex => ['D', 'E', 'X']
  | .dey => ['D', 'E', 'Y']
  | .eor => ['E', 'O', 'R']
  | .inc => ['I', 'N', 'C']
  | .inx => ['I', 'N', 'X']
  | .iny => ['I', 'N', 'Y']
  | .isb => ['I', 'S', 'B']
  | .jam => ['J', 'A', 'M']
  | .jmp => ['J', 'M', 'P']
  | .jsr => ['J', 'S', 'R']
  | .las => ['L', 'A', 'S']
  | .lax => ['L', 'A', 'X']
  | .lda => ['L', 'D', 'A']
  | .ldx => ['L', 'D', 'X']
  | .ldy => ['L', 'D', 'Y']
  | .lsr => ['L', 'S', 'R']
  | .lxa => ['L', 'X', 'A']
  | .nop => ['N', 'O', 'P']
  | .ora => ['O', 'R', 'A']
  | .pha => ['P', 'H', 'A']
  | .php => ['P', 'H', 'P']
  | .pla => ['P', 'L', 'A']
  | .plp => ['P', 'L', 'P']
  | .rla => ['R', 'L', 'A']
  | .rol => ['R', 'O', 'L']
  | .ror => ['R', 'O', 'R']
  | .rra => ['R', 'R', 'A']
  | .rti => ['R', 'T', 'I']
  | .rts => ['R', 'T', 'S']
  | .sax => ['S', 'A', 'X']
  | .sbc => ['S', 'B', 'C']
  | .sbx => ['S', 'B', 'X']
  | .sec => ['S', 'E', 'C']
  | .sed => ['S', 'E', 'D']
  | .sei => ['S', 'E', 'I']
  | .sha => ['S', 'H', 'A']
  | .shx => ['S', 'H', 'X']
  | .shy => ['S', 'H', 'Y']
  | .slo => ['S', 'L', 'O']
  | .sre => ['S', 'R', 'E']
  | .sta => ['S', 'T', 'A']
  | .stx => ['S', 'T', 'X']
  | .sty => ['S', 'T', 'Y']
  | .tas => ['T', 'A', 'S']
  | .tax => ['T', 'A', 'X']
  | .tay => ['T', 'A', 'Y']
  | .tsx => ['T', 'S', 'X']
  | .txa => ['T', 'X', 'A']
  | .txs => ['T', 'X', 'S']
  | .tya => ['T', 'Y', 'A']
  | .usbc => ['U', 'S', 'B', 'C']

/-- The tokens of R77; `,X` and `,Y` are one token each. -/
inductive Token where
  | mnemonic (m : Mnemonic)
  | ident (name : List Char)
  | hash
  | hex8 (v : Byte)
  | hex16 (v : Word)
  | lparen
  | rparen
  | commaX
  | commaY
  | colon
  | eol
  deriving DecidableEq, Repr

/-- White space other than the end of line (log 16). -/
def isBlank (c : Char) : Bool := c == ' ' || c == '\t' || c == '\r'

/-- Does the code of `c` lie between those of `lo` and `hi`? -/
def charIn (lo hi c : Char) : Bool := decide (lo.toNat ≤ c.toNat) && decide (c.toNat ≤ hi.toNat)

/-- The first character of an identifier: a letter or `_` (R77). -/
def isIdentStart (c : Char) : Bool := charIn 'A' 'Z' c || charIn 'a' 'z' c || c == '_'

/-- A later character of an identifier (R77). -/
def isIdentChar (c : Char) : Bool := isIdentStart c || charIn '0' '9' c

/-- The value of a hexadecimal digit, of either case (R77). -/
def hexDigit (c : Char) : Option Nat :=
  if charIn '0' '9' c then some (c.toNat - 48)
  else if charIn 'A' 'F' c then some (c.toNat - 55)
  else if charIn 'a' 'f' c then some (c.toNat - 87)
  else none

/-- The number a run of hexadecimal digits spells, most significant first. -/
def hexValue (digits : List Char) : Nat :=
  digits.foldl (fun n c => 16 * n + (hexDigit c).getD 0) 0

/-- A `$` literal: two digits give 8 bits, four give 16, any other count is an error (R77). -/
def hexLiteral (digits : List Char) : Option Token :=
  if digits.length = 2 then some (.hex8 (BitVec.ofNat 8 (hexValue digits)))
  else if digits.length = 4 then some (.hex16 (BitVec.ofNat 16 (hexValue digits)))
  else none

/-- The mnemonic of the table that a word spells; a mnemonic has three letters, so USBC is none (R77). -/
def mnemonicOf (w : List Char) : Option Mnemonic :=
  if w.length = 3 then (opcodes.find? fun d => letters d.mnemonic == w).map Descriptor.mnemonic else none

/-- A word is a mnemonic or an identifier (R77). -/
def wordToken (w : List Char) : Token :=
  match mnemonicOf w with
  | some m => .mnemonic m
  | none => .ident w

/-- A token in front of the tokens of the rest. -/
def putToken (t : Token) (rest : Except ParseError (List Token)) : Except ParseError (List Token) :=
  rest.map (t :: ·)

/-- The lexer (R77). `fuel` bounds the characters; the length of the text is enough. -/
def lex : Nat → List Char → Except ParseError (List Token)
  | _, [] => .ok []
  | 0, _ :: _ => .error .unexpectedToken
  | fuel + 1, c :: cs =>
    if c == '\n' then putToken .eol (lex fuel cs)
    else if isBlank c then lex fuel cs
    else if c == '#' then putToken .hash (lex fuel cs)
    else if c == '(' then putToken .lparen (lex fuel cs)
    else if c == ')' then putToken .rparen (lex fuel cs)
    else if c == ':' then putToken .colon (lex fuel cs)
    else if c == '$' then
      let digits := cs.takeWhile fun d => (hexDigit d).isSome
      match hexLiteral digits with
      | none => .error .badHexLiteral
      | some t => putToken t (lex fuel (cs.drop digits.length))
    else if c == ',' then
      let after := cs.dropWhile isBlank
      let word := after.takeWhile isIdentChar
      if word = ['X'] then putToken .commaX (lex fuel (after.drop 1))
      else if word = ['Y'] then putToken .commaY (lex fuel (after.drop 1))
      else .error .unexpectedToken
    else if isIdentStart c then
      let word := c :: cs.takeWhile isIdentChar
      putToken (wordToken word) (lex fuel (cs.dropWhile isIdentChar))
    else .error .unexpectedToken

/-- A `value` of the grammar (R78). -/
inductive AsmValue where
  | u8 (v : Byte)
  | u16 (v : Word)
  | label (name : List Char)
  deriving DecidableEq, Repr

/-- An `operand` of the grammar, by operand kind (R78, R79). -/
inductive AsmOperand where
  | none
  | imm (v : AsmValue)
  | direct (v : AsmValue)
  | directX (v : AsmValue)
  | directY (v : AsmValue)
  | ind (v : AsmValue)
  | indX (v : AsmValue)
  | indY (v : AsmValue)
  deriving DecidableEq, Repr

/-- An `instruction` of the grammar (R78). -/
structure AsmLine where
  label    : Option (List Char)
  mnemonic : Mnemonic
  operand  : AsmOperand
  deriving DecidableEq, Repr

/-- The tokens between line ends. -/
def splitLines : List Token → List (List Token)
  | [] => [[]]
  | t :: ts =>
    match t, splitLines ts with
    | .eol, ls => [] :: ls
    | t, [] => [[t]]
    | t, l :: ls => (t :: l) :: ls

/-- A token that is a value. -/
def valueOf : Token → Option AsmValue
  | .hex8 v => some (.u8 v)
  | .hex16 v => some (.u16 v)
  | .ident name => some (.label name)
  | .mnemonic _ | .hash | .lparen | .rparen | .commaX | .commaY | .colon | .eol => none

/-- An operand made from a value token. -/
def withValue (t : Token) (f : AsmValue → AsmOperand) : Except ParseError AsmOperand :=
  match valueOf t with
  | some v => .ok (f v)
  | none => .error .unexpectedToken

/-- The operand that ends a line (R78). -/
def parseOperand : List Token → Except ParseError AsmOperand
  | [] => .ok .none
  | [.hash, t] => withValue t .imm
  | [.lparen, t, .rparen] => withValue t .ind
  | [.lparen, t, .rparen, .commaY] => withValue t .indY
  | [.lparen, t, .commaX, .rparen] => withValue t .indX
  | [t] => withValue t .direct
  | [t, .commaX] => withValue t .directX
  | [t, .commaY] => withValue t .directY
  | _ => .error .unexpectedToken

/-- A mnemonic and its operand. -/
def parseInstruction (label : Option (List Char)) : List Token → Except ParseError (Option AsmLine)
  | .mnemonic m :: rest => (parseOperand rest).map fun o => some ⟨label, m, o⟩
  | .ident _ :: _ => .error .invalidMnemonic
  | _ => .error .unexpectedToken

/-- One line (R78, R83). -/
def parseLine : List Token → Except ParseError (Option AsmLine)
  | [] => .ok none
  | .ident l :: .colon :: rest => parseInstruction (some l) rest
  | ts => parseInstruction none ts

/-- The instructions of the lines, empty lines left out. -/
def parseLines : List (List Token) → Except ParseError (List AsmLine)
  | [] => .ok []
  | l :: ls => do
    let i ← parseLine l
    let is ← parseLines ls
    return match i with
      | some i => i :: is
      | none => is

/-- The modes an operand of 8 bits, or one of 16 bits, is compatible with (R79, R80). -/
def modesFor (v : AsmValue) (modes8 modes16 : List Mode) : List Mode :=
  match v with
  | .u8 _ => modes8
  | .u16 _ | .label _ => modes16

/-- The compatibility table of R79, with the 16-bit branch targets of R80. An identifier counts as 16 bits. -/
def AsmOperand.modes : AsmOperand → List Mode
  | .none => [.implied]
  | .imm v => modesFor v [.immediate] []
  | .direct v => modesFor v [.zeropage, .relative] [.absolute, .relative]
  | .directX v => modesFor v [.zeropageX] [.absoluteX]
  | .directY v => modesFor v [.zeropageY] [.absoluteY]
  | .ind v => modesFor v [] [.indirect]
  | .indX v => modesFor v [.indirectX] []
  | .indY v => modesFor v [.indirectY] []

/-- Opcode resolution (R79): among the matching descriptors the documented one, else the lowest opcode byte. -/
def resolve (m : Mnemonic) (o : AsmOperand) : Except ParseError Descriptor :=
  let found := opcodes.filter fun d => d.mnemonic == m && o.modes.contains d.mode
  match (found.filter fun d => !d.illegal) ++ found with
  | d :: _ => .ok d
  | [] => .error .invalidMode

/-- The labels seen so far and their addresses. -/
abbrev Labels := List (List Char × Word)

/-- A label's address. -/
def findLabel (name : List Char) : Labels → Option Word
  | [] => none
  | (n, w) :: ls => if n = name then some w else findLabel name ls

/-- An instruction of pass 1: its address and descriptor. -/
structure PlacedLine where
  address    : Nat
  descriptor : Descriptor
  operand    : AsmOperand
  deriving DecidableEq, Repr

/-- The labels with a line's own label recorded, if it has one; a second definition is an error (R81). -/
def recordLabel (label : Option (List Char)) (pc : Nat) (labels : Labels) : Except ParseError Labels :=
  match label with
  | none => .ok labels
  | some name =>
    match findLabel name labels with
    | some _ => .error .duplicateLabel
    | none => .ok ((name, BitVec.ofNat 16 pc) :: labels)

/-- Pass 1 (R81): each instruction's address, descriptor and label. -/
def pass1 : Nat → Labels → List AsmLine → Except ParseError (List PlacedLine × Labels)
  | _, labels, [] => .ok ([], labels)
  | pc, labels, l :: ls => do
    let d ← resolve l.mnemonic l.operand
    let labels ← recordLabel l.label pc labels
    let (rest, labels) ← pass1 (pc + d.length) labels ls
    return (⟨pc, d, l.operand⟩ :: rest, labels)

/-- The value of an operand, if it has one. -/
def AsmOperand.value : AsmOperand → Option AsmValue
  | .none => .none
  | .imm v | .direct v | .directX v | .directY v | .ind v | .indX v | .indY v => some v

/-- The 16-bit bytes of an operand: the offset of a branch from the next instruction (R80), or an address, low byte
first (R82). -/
def targetBytes (l : PlacedLine) (target : Word) : Except ParseError (List Byte) :=
  if l.descriptor.mode = .relative then
    let off : Int := target.toNat - (l.address + 2)
    if -128 ≤ off ∧ off ≤ 127 then .ok [BitVec.ofInt 8 off] else .error .branchOutOfRange
  else .ok [lo8 target, hi8 target]

/-- The bytes of one instruction (R82). -/
def emitLine (labels : Labels) (l : PlacedLine) : Except ParseError (List Byte) :=
  match l.operand.value with
  | none => .ok [l.descriptor.code]
  | some (.u8 v) => .ok [l.descriptor.code, v]
  | some (.u16 w) => (targetBytes l w).map (l.descriptor.code :: ·)
  | some (.label name) =>
    match findLabel name labels with
    | none => .error .unresolvedLabel
    | some w => (targetBytes l w).map (l.descriptor.code :: ·)

/-- Pass 2 (R82). -/
def pass2 (labels : Labels) : List PlacedLine → Except ParseError (List Byte)
  | [] => .ok []
  | l :: ls => do
    let bytes ← emitLine labels l
    let rest ← pass2 labels ls
    return bytes ++ rest

/-- The assembler (R76): the bytes of a program, in fetch order, from its characters. Pass 1 starts at 0x8000. -/
def assemble (source : List Char) : Except ParseError (List Byte) := do
  let tokens ← lex source.length source
  let lines ← parseLines (splitLines tokens)
  let (placed, labels) ← pass1 0x8000 [] lines
  pass2 labels placed

/-- The assembler on a string. -/
def assembleText (source : String) : Except ParseError (List Byte) := assemble source.toList

/-- A hexadecimal digit, upper case. -/
def hexChar (n : Nat) : Char := if n < 10 then Char.ofNat (48 + n) else Char.ofNat (55 + n)

/-- `$nn`. -/
def hexText8 (v : Byte) : List Char := ['$', hexChar (v.toNat / 16), hexChar (v.toNat % 16)]

/-- `$nnnn`. -/
def hexText16 (w : Word) : List Char :=
  ['$', hexChar (w.toNat / 4096), hexChar (w.toNat / 256 % 16), hexChar (w.toNat / 16 % 16), hexChar (w.toNat % 16)]

/-- The canonical operand text of each mode (R84); a branch has none. -/
def operandText : Option Operand → Option (List Char)
  | none => some []
  | some (.immediate b) => some ('#' :: hexText8 b)
  | some (.zeropage b) => some (hexText8 b)
  | some (.zeropageX b) => some (hexText8 b ++ [',', 'X'])
  | some (.zeropageY b) => some (hexText8 b ++ [',', 'Y'])
  | some (.absolute w) => some (hexText16 w)
  | some (.absoluteX w) => some (hexText16 w ++ [',', 'X'])
  | some (.absoluteY w) => some (hexText16 w ++ [',', 'Y'])
  | some (.indirect w) => some ('(' :: hexText16 w ++ [')'])
  | some (.indirectX b) => some ('(' :: hexText8 b ++ [',', 'X', ')'])
  | some (.indirectY b) => some ('(' :: hexText8 b ++ [')', ',', 'Y'])
  | some (.relative _) => none

/-- The canonical source text of an instruction (R84): its mnemonic, a space, its operand. -/
def canonicalText (m : Mnemonic) (o : Option Operand) : Option (List Char) :=
  (operandText o).map fun t => letters m ++ ' ' :: t

end Sys2Proof.Machine
end

