-- ==== Sys2Proof/Machine/Cartridge.lean ====
section
/-! DEFINITION. Cartridge admission from an iNES 1.0 image (R241). -/

namespace Sys2Proof.Machine

/-- Why an image is not admitted (`RomFormatError`, R193, R241). -/
inductive RomFormatError where
  | badMagic
  | shortRead
  | unsupportedMapper
  | unsupportedVersion
  | unsupportedPrgSize
  deriving DecidableEq, Repr

/-- The PRG size of byte 4, in 16 KiB units: 1 or 2 (R241). -/
def prgSizeOf (b4 : Byte) : Option PrgSize :=
  if b4 = 1 then some .k16 else if b4 = 2 then some .k32 else none

/-- The mirroring of byte 6 (R241): bit 3 over bit 0. -/
def mirroringOf (b6 : Byte) : Mirroring :=
  if b6.getLsbD 3 then .fourScreen else if b6.getLsbD 0 then .vertical else .horizontal

/-- The mapper number: `(byte7 AND 0xF0) OR (byte6 >> 4)` (R241). -/
def mapperOf (b6 b7 : Byte) : Byte := (b7 &&& (0xF0 : Byte)) ||| (b6 >>> 4)

/-- The length of the trainer, present when byte 6 bit 2 is 1 (R241). -/
def trainerLength (b6 : Byte) : Nat := if b6.getLsbD 2 then 512 else 0

/-- The payload after the 16-byte header, once the header is accepted (R241). -/
def admitPayload (size : PrgSize) (b5 b6 : Byte) (body : List Byte) : Except RomFormatError Cart :=
  let chrLen := 8192 * b5.toNat
  if body.length < trainerLength b6 + size.bytes + chrLen then .error .shortRead
  else
    let payload := body.drop (trainerLength b6)
    .ok {
      prgSize := size
      prg := Memory.ofBytes 0 (payload.take size.bytes)
      chrLen := chrLen
      chr := Memory.ofBytes 0 ((payload.drop size.bytes).take chrLen)
      mirroring := mirroringOf b6 }

/-- The cartridge an image describes (R241). Which of several errors is named first is the model's choice
(log 18). -/
def admitImage (file : List Byte) : Except RomFormatError Cart :=
  match file with
  | m0 :: m1 :: m2 :: m3 :: b4 :: b5 :: b6 :: b7 :: _ :: _ :: _ :: _ :: _ :: _ :: _ :: _ :: body =>
    if [m0, m1, m2, m3] ≠ [0x4E, 0x45, 0x53, 0x1A] then .error .badMagic
    else if b7 &&& 0x0C ≠ 0 then .error .unsupportedVersion
    else if mapperOf b6 b7 ≠ 0 then .error .unsupportedMapper
    else
      match prgSizeOf b4 with
      | none => .error .unsupportedPrgSize
      | some size => admitPayload size b5 b6 body
  | _ => .error .shortRead

end Sys2Proof.Machine
end

