-- ==== Sys2Proof/Machine/HostOps.lean ====
section
/-! DEFINITION. What the host can do between steps (R236): launch (R240), `reset()` (R238), buttons (R36),
IRQ request (R206), and noticing a finished frame (R224). -/

namespace Sys2Proof.Machine

/-- `reset()` (R238). -/
def hostReset (s : State) : State :=
  let s1 := (s.setSp 0xFD).setFlags { s.p with i := true }
  let v := read16 0xFFFC s1
  (v.2.setPc v.1).setHalted false

/-- The launch of R240: power-on with the cartridge, the parameters and, for `FlatRam`, an initial image of `ram`;
then one `reset()`. -/
def boot (cart : Cart) (params : Params) (ramImage : Memory) : State :=
  hostReset ((State.powerOn cart params).setRam ramImage)

/-- The host's IRQ request (R206): the latch can only be set. -/
def requestIrq (s : State) : State := s.setIrqPending true

/-- A host move between two steps (R236). -/
inductive HostMove where
  | buttons (v : Byte)
  | irqRequest
  | reset
  deriving DecidableEq, Repr

/-- The state after a host move. -/
def applyMove (m : HostMove) (s : State) : State :=
  match m with
  | .buttons v => s.setButtons v
  | .irqRequest => requestIrq s
  | .reset => hostReset s

/-- How many frames the step from `before` with outcome `r` completes: the wraps from scanline 261 to 0 in the tick that
ends it (R211, R224). A step that ends with a mark has no tick (R196), and under `FlatRam` there is no PPU. -/
def framesCompleted (before : State) (r : Result) : Nat :=
  match before.params.busVariant, r with
  | .nes, .next after => before.ppu.frameWraps (3 * (after.cycles - before.cycles))
  | .flatRam, .next _ | _, .fault _ | _, .refused _ => 0

/-- The host's sign that a frame is complete: the scanline counter wrapped during the step, however long it was
(R224). -/
def frameComplete (before : State) (r : Result) : Bool := framesCompleted before r != 0

/-- The framebuffer pixel the host reads (R31, R236). -/
def pixel (s : State) (y x : Nat) : Byte := s.ppu.fb.read (y * 256 + x)

end Sys2Proof.Machine
end

