-- ==== Sys2Proof/Safety.lean ====
section
/-! DEFINITION. What a run is, which states are final, the invariant of every reachable state, and the words the
claims use. -/

namespace Sys2Proof.Machine

/-- Carries neither mark (R24). -/
def State.unmarked (s : State) : Bool := s.faulted.isNone && s.refused.isNone

/-- FINAL: halted with no mark (R200). -/
def State.isFinal (s : State) : Bool := s.halted && s.unmarked

/-- The state a step leaves, marked where it ends in `Fault` or `Refused` (R194, R195); a marked state's step leaves
none (R196). -/
def stateLeft : Result → Option State
  | .next s => some s
  | .fault (.busError _ s) => some s
  | .fault (.alreadyFaulted _) => none
  | .fault (.unimplementedOpcode _) => none
  | .refused (.refusedOpcode _ s) => some s
  | .refused _ => none

/-- Every memory of the PPU is canonical and within its size (R31). -/
def Ppu.memoriesOk (p : Ppu) : Bool :=
  p.vram.wf && p.vram.below 2048 && p.palette.wf && p.palette.below 32 && p.oam.wf && p.oam.below 256
    && p.fb.wf && p.fb.below 61440

/-- `ppu.scanline ∈ [0, 261]` and `ppu.cycle ∈ [0, 340]` (R35, R212). -/
def Ppu.countersOk (p : Ppu) : Bool := decide (p.scanline.toNat < 262) && decide (p.cycle.toNat < 341)

/-- Is `a` an address of the APU shadow? (R28) -/
def isApuAddress (a : Nat) : Bool :=
  (decide (0x4000 ≤ a) && decide (a ≤ 0x4013)) || a == 0x4015 || a == 0x4017

/-- Every memory of the bus is canonical and within its size (R27 to R29), and so is the cartridge (R30). -/
def State.memoriesOk (s : State) : Bool :=
  s.wram.wf && s.wram.below 2048 && s.apu.wf && s.apu.all (fun c => isApuAddress c.1)
    && s.ram.wf && s.ram.below 65536 && s.ppu.memoriesOk && s.cart.wellFormed

/-- The invariant of every reachable state: canonical memories, PPU counters in range (R212), P.B = 0 (R19), and the
PPU's NMI output clear between steps (R211). -/
def State.Inv (s : State) : Prop :=
  s.memoriesOk = true ∧ s.ppu.countersOk = true ∧ s.p.b = false ∧ s.ppu.nmiOut = false

/-- The states of runs: a launch with an admissible cartridge and a canonical RAM image, then steps and host moves in
any order (R236, R240); the marked state a step leaves counts too, since the host may still reset it (R238). -/
inductive Reachable : State → Prop where
  | launch (cart : Cart) (params : Params) (ramImage : Memory)
      (hc : cart.wellFormed = true) (hr : ramImage.wf = true) (hb : ramImage.below 65536 = true) :
      Reachable (boot cart params ramImage)
  | step (s t : State) (hs : Reachable s) (h : stateLeft (step s) = some t) : Reachable t
  | move (s : State) (m : HostMove) (hs : Reachable s) : Reachable (applyMove m s)

/-- The byte of CPU storage behind an address: work RAM, APU shadow, PRG ROM or flat RAM; none for a device or an
unbacked address (R44). Two addresses with one region share one byte. -/
def storedByte (s : State) (a : Word) : Option Byte :=
  match s.region a with
  | .wram off => some (s.wram.read off)
  | .apu k => some (s.apu.read k)
  | .pad2 => some (s.apu.read 0x4017)
  | .prg off => some (s.cart.prg.read off)
  | .ram k => some (s.ram.read k)
  | .ppu _ | .oamDma | .pad1 | .unlisted | .openBus => none

/-- The write at `a` raises `BusError(a)` (R53, R112). -/
def raisesBusError (s : State) (a : Word) : Prop :=
  s.params.busVariant = .nes ∧ s.params.prgWritePolicy = .fault ∧ 0x8000 ≤ a.toNat

/-- The mnemonics that write memory at an effective address (R101, R193); a shift does so in its memory forms. -/
def storingMnemonics : List Mnemonic :=
  [.sta, .stx, .sty, .sax, .inc, .dec, .asl, .lsr, .rol, .ror, .slo, .rla, .sre, .rra, .dcp, .isb]

/-- The mnemonics that write the stack (R125, R127, R159, R161). -/
def pushingMnemonics : List Mnemonic := [.pha, .php, .jsr, .brk]

/-- The address where a control transfer of `length` bytes to `target` ends (R86): the target, but under `BySnapshot`
a target equal to the PC before the handler is taken for no transfer. -/
def landingPc (s : State) (length : Nat) (target : Word) : Word :=
  if s.params.pcAdvanceRule = .bySnapshot ∧ target = s.pc then s.pc + BitVec.ofNat 16 (length - 1) else target

/-- The condition of each branch (R149 to R156). -/
def branchTaken (m : Mnemonic) (p : Flags) : Option Bool :=
  match m with
  | .bpl => some (!p.n)
  | .bmi => some p.n
  | .bvc => some (!p.v)
  | .bvs => some p.v
  | .bcc => some (!p.c)
  | .bcs => some p.c
  | .bne => some (!p.z)
  | .beq => some p.z
  | _ => none

/-- The byte that sprite `i` draws at row `y`, column `x`, or none where it is transparent or elsewhere (R227). -/
def spriteByte (c : Cart) (p : Ppu) (y x i : Nat) : Option Byte :=
  let top := (p.oam.read (4 * i)).toNat
  let attr := p.oam.read (4 * i + 2)
  let left := (p.oam.read (4 * i + 3)).toNat
  if top ≤ y ∧ y < top + 8 ∧ left ≤ x ∧ x < left + 8 then
    let r := if attr.getLsbD 7 then 7 - (y - top) else y - top
    let b := if attr.getLsbD 6 then x - left else 7 - (x - left)
    let val := tileValue c (patternBank (p.ctrl.getLsbD 3)) (p.oam.read (4 * i + 1)) r b
    if val = 0 then none else some (p.palette.read (0x10 + 4 * (attr.toNat % 4) + val))
  else none

end Sys2Proof.Machine
end

