-- ==== Sys2Proof/Certificates/Slice0/Obligations.lean ====
section
/-! DEFINITION. The statements. Each says which rules of spec/ it formalises. Where an instruction is named, `i` is any
of its rows, `d` that row of the opcode table and `o` its operand, so a statement also holds the row's mode, base cycles
and page-cross flag against the meaning. -/

open Sys2Proof Sys2Proof.Machine

/-! ### Decoding and encoding -/

/-- R66, R72: words written out from the table decode to the instructions they stand for, one for each format. -/
def Obligations.SpecWordsDecode : Prop :=
  decode [0xA9, 0x05] = .ok (.ldaImm 0x05, []) ∧
  decode [0xBD, 0xFF, 0x00] = .ok (.ldaAbx 0x00FF, []) ∧
  decode [0xA1, 0xFF] = .ok (.ldaIzx 0xFF, []) ∧
  decode [0x91, 0x40] = .ok (.staIzy 0x40, []) ∧
  decode [0x96, 0x10] = .ok (.stxZpy 0x10, []) ∧
  decode [0x6C, 0xFF, 0x00] = .ok (.jmpInd 0x00FF, []) ∧
  decode [0x10, 0xFB] = .ok (.bpl (-5), []) ∧
  decode [0x00, 0xEA] = .ok (.brk, [0xEA]) ∧
  decode [0x1C, 0xFF, 0x80] = .ok (.nopAbx1C 0x80FF, []) ∧
  decode [0xDF, 0xFF, 0x02] = .ok (.dcpAbx 0x02FF, []) ∧
  decode [0xF2] = .ok (.jamF2, []) ∧
  decode [0xEB, 0x01] = .ok (.usbc 0x01, []) ∧
  decode [0xBD, 0xFF] = .error .truncated

/-- R64, R66, R68: decoding the bytes of a well-formed instruction gives it back and leaves what follows. -/
def Obligations.DecodeInvertsEncode : Prop :=
  ∀ (i : Instr) (rest : List Byte), i.wellFormed = true → decode (encode i ++ rest) = .ok (i, rest)

/-- R64, R66, R68: whatever decodes is well formed, and the bytes read are its encoding. -/
def Obligations.EncodeInvertsDecode : Prop :=
  ∀ (bytes rest : List Byte) (i : Instr),
    decode bytes = .ok (i, rest) → i.wellFormed = true ∧ bytes = encode i ++ rest

/-- R67, R68, R75: every opcode byte has a descriptor whose code is that byte, decodes, and takes exactly the
descriptor's length. -/
def Obligations.DecodingIsTotal : Prop :=
  ∀ op b1 b2 : Byte, ∃ (i : Instr) (d : Descriptor) (rest : List Byte),
    descriptorAt op = some d ∧ d.code = op ∧ decode [op, b1, b2] = .ok (i, rest) ∧ i.opcode = op ∧
      rest.length + d.length = 3 ∧ i.operand.map Operand.mode = (if d.mode = .implied then none else some d.mode)

/-! ### The step -/

/-- R85, R208, R211: when the machine is to run an instruction and the bytes at PC decode to `i`, the step is `exec i` at
the state after the opcode fetch, followed by the PPU. (What the operand bytes are read for is log 9.) What the PPU's turn
leaves, after that or any other CPU step: under `Nes` the PPU ticked by three times the cycles elapsed, its NMI output
cleared, and `nmi_pending` set exactly when it was set or the output was; under `FlatRam` nothing changes; and a step that
ends with a fault or refusal has no PPU turn. -/
def Obligations.StepRunsDecodedInstruction : Prop :=
  (∀ (s : State) (i : Instr) (rest : List Byte),
    s.unmarked = true → s.halted = false → s.nmiPending = false → (s.irqPending = true → s.p.i = true) →
    decode ((busRead s.pc s).1 :: peekOperandBytes ((busRead s.pc s).2.setPc (s.pc + 1))) = .ok (i, rest) →
    step s = afterCpu s.cycles (exec i ((busRead s.pc s).2.setPc (s.pc + 1)))) ∧
  (∀ s : State, s.unmarked = true → step s = afterCpu s.cycles (cpuStep s)) ∧
  (∀ (c0 : Nat) (u : State),
    afterCpu c0 (.next u) = .next (couplePpu c0 u) ∧
    (u.params.busVariant = .nes →
      let q := ppuTick u.cart (3 * (u.cycles - c0)) u.ppu
      couplePpu c0 u = { u with ppu := { q with nmiOut := false }, nmiPending := u.nmiPending || q.nmiOut }) ∧
    (u.params.busVariant = .flatRam → couplePpu c0 u = u)) ∧
  (∀ (c0 : Nat) (f : Fault), afterCpu c0 (.fault f) = .fault f) ∧
  (∀ (c0 : Nat) (r : Refusal), afterCpu c0 (.refused r) = .refused r)

/-- R14 to R36, R239: every field of the state after reset that the spec gives a value. The cartridge, the free
`intServiceCycles` and the model's own `buttons` and `draws` are named by log 3 to log 6 and not stated here; PC is
`read16(0xFFFC)` of that cartridge. -/
def Obligations.ResetState : Prop :=
  let s := State.reset
  s.a = 0 ∧ s.x = 0 ∧ s.y = 0 ∧ s.sp = 0xFD ∧ s.pc = (read16 0xFFFC s).1 ∧
  s.p = ⟨false, false, false, false, true, false, false⟩ ∧
  s.nmiPending = false ∧ s.irqPending = false ∧ s.halted = false ∧ s.refused = none ∧ s.faulted = none ∧
  s.cycles = 0 ∧ (∀ a, s.wram.read a = 0) ∧ (∀ a, s.apu.read a = 0) ∧ (∀ a, s.ram.read a = 0) ∧
  (∀ a, s.ppu.vram.read a = 0) ∧ (∀ a, s.ppu.palette.read a = 0) ∧ (∀ a, s.ppu.oam.read a = 0) ∧
  (∀ y x, pixel s y x = 0) ∧ s.ppu.ctrl = 0 ∧ s.ppu.mask = 0 ∧ s.ppu.oamAddr = 0 ∧ s.ppu.readBuffer = 0 ∧
  s.ppu.databus = 0 ∧ s.ppu.latch = 0 ∧ s.ppu.vblank = false ∧ s.ppu.nmiOut = false ∧ s.ppu.scanline = 0 ∧
  s.ppu.cycle = 0 ∧ s.pad.strobe = false ∧ s.pad.index = 0 ∧ s.pad.snapshot = 0

/-- R238: what `reset()` does to any state, marked and halted ones included: SP, P.I, PC and `halted`, and nothing
else. -/
def Obligations.HostResetEffect : Prop :=
  ∀ s : State, hostReset s =
    { s with sp := 0xFD, p := { s.p with i := true }, pc := (read16 0xFFFC s).1, halted := false }

/-- R19, R211, R212: the invariant holds right after reset: scanline below 262, cycle below 341, P.B = 0, `nmi_out` = 0,
and canonical memories within their sizes. That memories are held in a canonical form is the model's (log 8), and so is
the cartridge of that state (log 4). -/
def Obligations.InvariantHoldsAtReset : Prop := State.reset.Inv

/-- R19, R35, R212: every step keeps the invariant, in the next state and in the marked state of a fault or refusal:
canonical memories within their sizes, scanline below 262, cycle below 341, P.B = 0, `nmi_out` = 0. That memories are
held in a canonical form is the model's (log 8). -/
def Obligations.InvariantKeptByStep : Prop :=
  ∀ s t : State, s.Inv → stateLeft (step s) = some t → t.Inv

/-- R212, R236, R240: the invariant holds in every state a run can reach, from any admissible launch, with host moves
between the steps. That memories are held in a canonical form is the model's (log 8). -/
def Obligations.ReachableStatesKeepInvariant : Prop := ∀ s : State, Reachable s → s.Inv

/-- R211, R212, R223, R224: in a step with a next state the PPU advances by three times the CPU cycles elapsed, round its
frame of 262 scanlines of 341 cycles, from any counters in range; and the host sees a complete frame exactly when some PPU
cycle of that advance is the last of scanline 261, however long the step. -/
def Obligations.PpuAdvancesThreePerCpuCycle : Prop :=
  ∀ s t : State, s.params.busVariant = .nes → s.ppu.countersOk = true → step s = .next t →
    s.cycles ≤ t.cycles ∧ t.ppu.countersOk = true ∧
    t.ppu.position = (s.ppu.position + 3 * (t.cycles - s.cycles)) % 89342 ∧
    (frameComplete s (step s) = true ↔
      ∃ k, k < 3 * (t.cycles - s.cycles) ∧
        (ppuTick s.cart k s.ppu).scanline = 261 ∧ (ppuTick s.cart k s.ppu).cycle = 340)

/-- R30, R37, R53: no step changes the cartridge or a launch parameter, so PRG ROM is never modified; that the buttons
stay too says only that the host moves them (log 6). -/
def Obligations.StepKeepsLaunchInputs : Prop :=
  ∀ s t : State, stateLeft (step s) = some t → t.cart = s.cart ∧ t.params = s.params ∧ t.buttons = s.buttons

/-- R85, R181, R197: a step of a halted CPU changes nothing and adds no cycles, whatever interrupts are pending. -/
def Obligations.HaltedStepChangesNothing : Prop :=
  ∀ s : State, s.unmarked = true → s.halted = true → s.ppu.nmiOut = false → step s = .next s

/-- R24, R196: a marked state has no step, a next state carries no mark, and the state a fault or refusal leaves carries
the mark of that outcome. -/
def Obligations.MarksEndTheRun : Prop :=
  (∀ s : State, s.unmarked = false → stateLeft (step s) = none) ∧
  (∀ s t : State, step s = .next t → t.unmarked = true) ∧
  (∀ (s t : State) (a : Word), step s = .fault (.busError a t) → t.faulted = some a) ∧
  (∀ (s t : State) (op : Byte), step s = .refused (.refusedOpcode op t) → t.refused = some op)

/-! ### Interrupts -/

/-- R202, R203: a pending NMI is serviced before anything else, an IRQ request included: PC's high byte, its low byte
and `pack(P, P.B)` are pushed, P.I is set, PC comes from 0xFFFA, the latch clears and the service cycles are added; the
PPU's turn follows. The order of the two PC bytes is the spec's decision D4 (R105). -/
def Obligations.NmiService : Prop :=
  ∀ s : State, s.unmarked = true → s.halted = false → s.nmiPending = true →
    let u := busStore (stackAddress (s.sp - 2)) (pack s.p s.p.b)
      (busStore (stackAddress (s.sp - 1)) (lo8 s.pc) (busStore (stackAddress s.sp) (hi8 s.pc) s))
    step s = .next (couplePpu s.cycles { u with
      sp := s.sp - 3, p := { s.p with i := true }, pc := (read16 0xFFFA u).1, nmiPending := false,
      cycles := s.cycles + s.params.intServiceCycles })

/-- R202, R204, R205: without an NMI, an IRQ request is serviced when P.I is 0, in the same way from 0xFFFE; while P.I
is 1 the step runs an instruction instead. The order of the two PC bytes is the spec's decision D4 (R105). -/
def Obligations.IrqService : Prop :=
  ∀ s : State, s.unmarked = true → s.halted = false → s.nmiPending = false → s.irqPending = true →
    (s.p.i = false →
      let u := busStore (stackAddress (s.sp - 2)) (pack s.p s.p.b)
        (busStore (stackAddress (s.sp - 1)) (lo8 s.pc) (busStore (stackAddress s.sp) (hi8 s.pc) s))
      step s = .next (couplePpu s.cycles { u with
        sp := s.sp - 3, p := { s.p with i := true }, pc := (read16 0xFFFE u).1, irqPending := false,
        cycles := s.cycles + s.params.intServiceCycles })) ∧
    (s.p.i = true → step s = afterCpu s.cycles (runInstruction s))

/-! ### Loads, stores, transfers, stack -/

/-- R113, R114, R115, R177: LDA, LDX, LDY and LAX complete, load the operand byte and set Z and N from it. -/
def Obligations.LoadInstructions : Prop :=
  ∀ (i : Instr) (o : Operand) (d : Descriptor) (s : State), i.descriptor = some d → i.operand = some o →
    let m := readOperand d.addCycleOnPageCross o (s.addCycles d.baseCycles)
    let p : Flags := { s.p with z := m.1 == 0, n := m.1.getLsbD 7 }
    let pc := s.pc + BitVec.ofNat 16 (d.length - 1)
    (d.mnemonic = .lda → exec i s = .next { m.2 with a := m.1, p := p, pc := pc }) ∧
    (d.mnemonic = .ldx → exec i s = .next { m.2 with x := m.1, p := p, pc := pc }) ∧
    (d.mnemonic = .ldy → exec i s = .next { m.2 with y := m.1, p := p, pc := pc }) ∧
    (d.mnemonic = .lax → exec i s = .next { m.2 with a := m.1, x := m.1, p := p, pc := pc })

/-- R112, R116, R117, R118, R178: STA, STX, STY and SAX complete wherever the write does not raise: one write at the
effective address, no read, no flag. -/
def Obligations.StoreInstructions : Prop :=
  ∀ (i : Instr) (o : Operand) (d : Descriptor) (s : State), i.descriptor = some d → i.operand = some o →
    let e := effectiveAddress d.addCycleOnPageCross o (s.addCycles d.baseCycles)
    let pc := s.pc + BitVec.ofNat 16 (d.length - 1)
    ¬ raisesBusError s e.1 →
    (d.mnemonic = .sta → exec i s = .next { busStore e.1 s.a e.2 with pc := pc }) ∧
    (d.mnemonic = .stx → exec i s = .next { busStore e.1 s.x e.2 with pc := pc }) ∧
    (d.mnemonic = .sty → exec i s = .next { busStore e.1 s.y e.2 with pc := pc }) ∧
    (d.mnemonic = .sax → exec i s = .next { busStore e.1 (s.a &&& s.x) e.2 with pc := pc })

/-- R112, R194: a write-class or read-modify-write instruction whose effective address is in PRG ROM ends, under `Nes`
and `PRG_WRITE_POLICY = Fault`, with `Fault(BusError, EA)`; the state it leaves has the base cycles and the effects of
the address computation, the mark, and nothing more: no flag, no PC advance (log 12). -/
def Obligations.WritesToPrgFault : Prop :=
  ∀ (i : Instr) (o : Operand) (d : Descriptor) (s : State), i.descriptor = some d → i.operand = some o →
    d.mnemonic ∈ storingMnemonics →
    let e := effectiveAddress d.addCycleOnPageCross o (s.addCycles d.baseCycles)
    raisesBusError s e.1 → exec i s = .fault (.busError e.1 { e.2 with faulted := some e.1 })

/-- R119 to R124: the register transfers complete; TXS alone sets no flag. -/
def Obligations.TransferInstructions : Prop :=
  ∀ s : State,
    exec .tax s = .next { s with
      x := s.a, p := { s.p with z := s.a == 0, n := s.a.getLsbD 7 }, cycles := s.cycles + 2 } ∧
    exec .tay s = .next { s with
      y := s.a, p := { s.p with z := s.a == 0, n := s.a.getLsbD 7 }, cycles := s.cycles + 2 } ∧
    exec .txa s = .next { s with
      a := s.x, p := { s.p with z := s.x == 0, n := s.x.getLsbD 7 }, cycles := s.cycles + 2 } ∧
    exec .tya s = .next { s with
      a := s.y, p := { s.p with z := s.y == 0, n := s.y.getLsbD 7 }, cycles := s.cycles + 2 } ∧
    exec .tsx s = .next { s with
      x := s.sp, p := { s.p with z := s.sp == 0, n := s.sp.getLsbD 7 }, cycles := s.cycles + 2 } ∧
    exec .txs s = .next { s with sp := s.x, cycles := s.cycles + 2 }

/-- R103, R104, R125 to R128: PHA and PHP push A and `pack(P, 1)` at 0x0100 | SP and then decrement SP; PLA and PLP
increment SP, modulo 256, and then read there. PLP leaves B and takes every other flag from its bit. -/
def Obligations.StackInstructions : Prop :=
  ∀ s : State,
    let top := w16 0x01 s.sp
    let m := busRead (w16 0x01 (s.sp + 1)) s
    exec .pha s = .next { busStore top s.a s with sp := s.sp - 1, cycles := s.cycles + 3 } ∧
    exec .php s = .next { busStore top (pack s.p true) s with sp := s.sp - 1, cycles := s.cycles + 3 } ∧
    exec .pla s = .next { s with
      a := m.1, p := { s.p with z := m.1 == 0, n := m.1.getLsbD 7 }, sp := s.sp + 1, cycles := s.cycles + 4 } ∧
    exec .plp s = .next { s with
      p := ⟨m.1.getLsbD 7, m.1.getLsbD 6, s.p.b, m.1.getLsbD 3, m.1.getLsbD 2, m.1.getLsbD 1, m.1.getLsbD 0⟩,
      sp := s.sp + 1, cycles := s.cycles + 4 }

/-- R103, R104: a pushed byte lies at 0x0100 | SP, the next pop returns it and restores SP, for every SP, 0x00 and
0xFF included. Memories are canonical (log 8), as `InvariantKeptByStep` keeps them. -/
def Obligations.PopReturnsPushedByte : Prop :=
  ∀ (s : State) (v : Byte), s.memoriesOk = true →
    (push8 v s).sp = s.sp - 1 ∧ (busRead (w16 0x01 s.sp) (push8 v s)).1 = v ∧
    (pop8 (push8 v s)).1 = v ∧ (pop8 (push8 v s)).2.sp = s.sp

/-! ### Arithmetic, logic, compare, increment, shift -/

/-- R107, R130: ADC completes: A + M + C in binary whatever P.D, C from the ninth bit, V from
(M ^ result) & (result ^ A) & 0x80, Z and N from the new A. -/
def Obligations.AdcAddsWithCarry : Prop :=
  ∀ (i : Instr) (o : Operand) (d : Descriptor) (s : State), i.descriptor = some d → i.operand = some o →
    d.mnemonic = .adc →
    let m := readOperand d.addCycleOnPageCross o (s.addCycles d.baseCycles)
    let r := s.a.toNat + m.1.toNat + s.p.c.toNat
    let v := BitVec.ofNat 8 (r % 256)
    exec i s = .next { m.2 with
      a := v
      p := { s.p with
        c := decide (r > 0xFF), v := (m.1 ^^^ v) &&& (v ^^^ s.a) &&& 0x80 != 0, z := v == 0, n := v.getLsbD 7 }
      pc := s.pc + BitVec.ofNat 16 (d.length - 1) }

/-- R108, R131, R179: SBC and USBC complete: A - M - (1 - C), C = 1 exactly when there is no borrow, V when A and M
differ in sign and the result's sign differs from A's, Z and N from the new A. -/
def Obligations.SbcSubtractsWithBorrow : Prop :=
  ∀ (i : Instr) (o : Operand) (d : Descriptor) (s : State), i.descriptor = some d → i.operand = some o →
    d.mnemonic = .sbc ∨ d.mnemonic = .usbc →
    let m := readOperand d.addCycleOnPageCross o (s.addCycles d.baseCycles)
    let v := BitVec.ofInt 8 ((s.a.toNat : Int) - m.1.toNat - (1 - s.p.c.toNat))
    exec i s = .next { m.2 with
      a := v
      p := { s.p with
        c := decide (m.1.toNat + 1 ≤ s.a.toNat + s.p.c.toNat)
        v := (s.a.getLsbD 7 != m.1.getLsbD 7) && (v.getLsbD 7 != s.a.getLsbD 7)
        z := v == 0, n := v.getLsbD 7 }
      pc := s.pc + BitVec.ofNat 16 (d.length - 1) }

/-- R107, R108, R129: V reports exactly signed overflow, of the sum and of the difference, read as two's complement. -/
def Obligations.OverflowFlagIsSignedOverflow : Prop :=
  ∀ (a m : Byte) (p : Flags),
    ((add a m p).2.v = true ↔ ¬ (-128 ≤ a.toInt + m.toInt + p.c.toNat ∧ a.toInt + m.toInt + p.c.toNat ≤ 127)) ∧
    ((sub a m p).2.v = true ↔
      ¬ (-128 ≤ a.toInt - m.toInt - (1 - p.c.toNat) ∧ a.toInt - m.toInt - (1 - p.c.toNat) ≤ 127))

/-- R132 to R135: AND, ORA and EOR complete, with Z and N from the new A; BIT completes with N and V from bits 7 and 6 of
M and Z telling whether M AND A is 0, A staying. -/
def Obligations.LogicInstructions : Prop :=
  ∀ (i : Instr) (o : Operand) (d : Descriptor) (s : State), i.descriptor = some d → i.operand = some o →
    let m := readOperand d.addCycleOnPageCross o (s.addCycles d.baseCycles)
    let left (v : Byte) : Result := .next { m.2 with
      a := v, p := { s.p with z := v == 0, n := v.getLsbD 7 }, pc := s.pc + BitVec.ofNat 16 (d.length - 1) }
    (d.mnemonic = .and → exec i s = left (s.a &&& m.1)) ∧
    (d.mnemonic = .ora → exec i s = left (s.a ||| m.1)) ∧
    (d.mnemonic = .eor → exec i s = left (s.a ^^^ m.1)) ∧
    (d.mnemonic = .bit → exec i s = .next { m.2 with
      p := { s.p with n := m.1.getLsbD 7, v := m.1.getLsbD 6, z := m.1 &&& s.a == 0 }
      pc := s.pc + BitVec.ofNat 16 (d.length - 1) })

/-- R109, R136, R137, R138: CMP, CPX and CPY complete: C when M ≤ reg, Z when they are equal, N from bit 7 of the
difference; V and the register stay. -/
def Obligations.CompareInstructions : Prop :=
  ∀ (i : Instr) (o : Operand) (d : Descriptor) (s : State), i.descriptor = some d → i.operand = some o →
    let m := readOperand d.addCycleOnPageCross o (s.addCycles d.baseCycles)
    let left (reg : Byte) : Result := .next { m.2 with
      p := { s.p with c := decide (m.1.toNat ≤ reg.toNat), z := decide (reg = m.1), n := (reg - m.1).getLsbD 7 }
      pc := s.pc + BitVec.ofNat 16 (d.length - 1) }
    (d.mnemonic = .cmp → exec i s = left s.a) ∧ (d.mnemonic = .cpx → exec i s = left s.x) ∧
    (d.mnemonic = .cpy → exec i s = left s.y)

/-- R139, R140: INC and DEC complete wherever the write does not raise: one read, one write of the byte plus or minus
one, Z and N from it; C and V stay. -/
def Obligations.IncDecMemory : Prop :=
  ∀ (i : Instr) (o : Operand) (d : Descriptor) (s : State), i.descriptor = some d → i.operand = some o →
    let e := effectiveAddress d.addCycleOnPageCross o (s.addCycles d.baseCycles)
    let m := busRead e.1 e.2
    let left (r : Byte) : Result := .next { busStore e.1 r m.2 with
      p := { s.p with z := r == 0, n := r.getLsbD 7 }, pc := s.pc + BitVec.ofNat 16 (d.length - 1) }
    ¬ raisesBusError s e.1 →
    (d.mnemonic = .inc → exec i s = left (m.1 + 1)) ∧ (d.mnemonic = .dec → exec i s = left (m.1 - 1))

/-- R141 to R144: INX, INY, DEX and DEY complete, modulo 256, with Z and N from the result. -/
def Obligations.IncDecRegisters : Prop :=
  ∀ s : State,
    let flags (v : Byte) : Flags := { s.p with z := v == 0, n := v.getLsbD 7 }
    exec .inx s = .next { s with x := s.x + 1, p := flags (s.x + 1), cycles := s.cycles + 2 } ∧
    exec .iny s = .next { s with y := s.y + 1, p := flags (s.y + 1), cycles := s.cycles + 2 } ∧
    exec .dex s = .next { s with x := s.x - 1, p := flags (s.x - 1), cycles := s.cycles + 2 } ∧
    exec .dey s = .next { s with y := s.y - 1, p := flags (s.y - 1), cycles := s.cycles + 2 }

/-- R110, R145 to R148: the accumulator forms of ASL, LSR, ROL and ROR complete; the carry before the instruction
enters the vacated bit of a rotate, and the bit shifted out becomes C. -/
def Obligations.ShiftAccumulator : Prop :=
  ∀ s : State,
    let left (r : Byte) (c : Bool) : Result := .next { s with
      a := r, p := { s.p with c := c, z := r == 0, n := r.getLsbD 7 }, cycles := s.cycles + 2 }
    exec .aslImp s = left (BitVec.ofNat 8 (2 * s.a.toNat)) (s.a.getLsbD 7) ∧
    exec .lsrImp s = left (BitVec.ofNat 8 (s.a.toNat / 2)) (s.a.getLsbD 0) ∧
    exec .rolImp s = left (BitVec.ofNat 8 (2 * s.a.toNat + s.p.c.toNat)) (s.a.getLsbD 7) ∧
    exec .rorImp s = left (BitVec.ofNat 8 (s.a.toNat / 2 + 128 * s.p.c.toNat)) (s.a.getLsbD 0)

/-- R110, R145 to R148: the memory forms of ASL, LSR, ROL and ROR complete wherever the write does not raise: one read,
one write of the shifted byte, C, Z and N as in the accumulator forms; A stays. -/
def Obligations.ShiftMemory : Prop :=
  ∀ (i : Instr) (o : Operand) (d : Descriptor) (s : State), i.descriptor = some d → i.operand = some o →
    let e := effectiveAddress d.addCycleOnPageCross o (s.addCycles d.baseCycles)
    let m := busRead e.1 e.2
    let left (r : Byte) (c : Bool) : Result := .next { busStore e.1 r m.2 with
      p := { s.p with c := c, z := r == 0, n := r.getLsbD 7 }, pc := s.pc + BitVec.ofNat 16 (d.length - 1) }
    ¬ raisesBusError s e.1 →
    (d.mnemonic = .asl → exec i s = left (BitVec.ofNat 8 (2 * m.1.toNat)) (m.1.getLsbD 7)) ∧
    (d.mnemonic = .lsr → exec i s = left (BitVec.ofNat 8 (m.1.toNat / 2)) (m.1.getLsbD 0)) ∧
    (d.mnemonic = .rol → exec i s = left (BitVec.ofNat 8 (2 * m.1.toNat + s.p.c.toNat)) (m.1.getLsbD 7)) ∧
    (d.mnemonic = .ror → exec i s = left (BitVec.ofNat 8 (m.1.toNat / 2 + 128 * s.p.c.toNat)) (m.1.getLsbD 0))

/-- R171 to R176: SLO, RLA, SRE, RRA, DCP and ISB complete wherever the write does not raise: the read-modify-write of
the first component, then the register operation of the second on the byte written. RRA adds with the carry its rotate
produced; `add`, `sub` and `compareFlags` are R107 to R109. -/
def Obligations.CompositeInstructions : Prop :=
  ∀ (i : Instr) (o : Operand) (d : Descriptor) (s : State), i.descriptor = some d → i.operand = some o →
    let e := effectiveAddress d.addCycleOnPageCross o (s.addCycles d.baseCycles)
    let m := busRead e.1 e.2
    let left (r : Byte) (a : Byte) (p : Flags) : Result := .next { busStore e.1 r m.2 with
      a := a, p := p, pc := s.pc + BitVec.ofNat 16 (d.length - 1) }
    let nz (a : Byte) (c : Bool) : Flags := { s.p with c := c, z := a == 0, n := a.getLsbD 7 }
    let dbl := BitVec.ofNat 8 (2 * m.1.toNat)
    let rolled := BitVec.ofNat 8 (2 * m.1.toNat + s.p.c.toNat)
    let half := BitVec.ofNat 8 (m.1.toNat / 2)
    let rored := BitVec.ofNat 8 (m.1.toNat / 2 + 128 * s.p.c.toNat)
    ¬ raisesBusError s e.1 →
    (d.mnemonic = .slo → exec i s = left dbl (s.a ||| dbl) (nz (s.a ||| dbl) (m.1.getLsbD 7))) ∧
    (d.mnemonic = .rla → exec i s = left rolled (s.a &&& rolled) (nz (s.a &&& rolled) (m.1.getLsbD 7))) ∧
    (d.mnemonic = .sre → exec i s = left half (s.a ^^^ half) (nz (s.a ^^^ half) (m.1.getLsbD 0))) ∧
    (d.mnemonic = .rra →
      let r := add s.a rored { s.p with c := m.1.getLsbD 0 }
      exec i s = left rored r.1 r.2) ∧
    (d.mnemonic = .dcp → exec i s = left (m.1 - 1) s.a (compareFlags s.a (m.1 - 1) s.p)) ∧
    (d.mnemonic = .isb →
      let r := sub s.a (m.1 + 1) s.p
      exec i s = left (m.1 + 1) r.1 r.2)

/-! ### Control, flags, NOP, JAM, stubs -/

/-- R86, R111, R149 to R157: each branch completes. Not taken: no access, 2 cycles, the next instruction. Taken: the
offset byte is read, 3 cycles, or 4 when the target's page is not that of the next instruction's address, and PC is the
target, but under `BySnapshot` a target equal to the offset byte's address falls through to the next instruction. -/
def Obligations.BranchInstructions : Prop :=
  ∀ (i : Instr) (off : Int) (d : Descriptor) (s : State), i.descriptor = some d → i.operand = some (.relative off) →
    let next := s.pc + 1
    let target := next + BitVec.ofInt 16 off
    let n := if hi8 target = hi8 next then 3 else 4
    (branchTaken d.mnemonic s.p = some false →
      exec i s = .next { s with pc := next, cycles := s.cycles + 2 }) ∧
    (branchTaken d.mnemonic s.p = some true →
      exec i s = .next { (busRead s.pc s).2 with pc := landingPc s 2 target, cycles := s.cycles + n })

/-- R93, R97, R158: JMP completes: PC is the operand, or the word read at the pointer, whose high byte comes from
the pointer's own page. -/
def Obligations.JumpInstructions : Prop :=
  ∀ (w : Word) (s : State),
    let u := (read16 s.pc (s.addCycles 3)).2
    let l := busRead w (read16 s.pc (s.addCycles 5)).2
    let h := busRead ((w &&& 0xFF00) ||| ((w + 1) &&& 0x00FF)) l.2
    exec (.jmpAbs w) s = .next { u with pc := landingPc s 3 w } ∧
    exec (.jmpInd w) s = .next { h.2 with pc := landingPc s 3 (w16 h.1 l.1) }

/-- R105, R106, R159, R160: JSR completes: it reads its operand, pushes `op_addr + 2` (here PC + 1), high byte first,
and jumps; RTS completes: it pops a word, low byte first, and goes one past it. These are the spec's decisions D4 and
D7. -/
def Obligations.SubroutineInstructions : Prop :=
  ∀ (w : Word) (s : State),
    let u := busStore (w16 0x01 (s.sp - 1)) (lo8 (s.pc + 1))
      (busStore (w16 0x01 s.sp) (hi8 (s.pc + 1)) (read16 s.pc s).2)
    let ret := w16 (busRead (w16 0x01 (s.sp + 2)) s).1 (busRead (w16 0x01 (s.sp + 1)) s).1
    exec (.jsr w) s = .next { u with sp := s.sp - 2, pc := landingPc s 3 w, cycles := s.cycles + 6 } ∧
    exec .rts s = .next { s with sp := s.sp + 2, pc := ret + 1, cycles := s.cycles + 6 }

/-- R161: BRK completes by taking its interrupt, whatever P.I: `op_addr + 2` (here PC + 1) and `pack(P, 1)` are pushed,
P.I is set, PC comes from 0xFFFE; B in the register and both latches stay. The order of the two PC bytes is the spec's
decision D4 (R105). -/
def Obligations.BrkTakesInterrupt : Prop :=
  ∀ s : State,
    let u := busStore (stackAddress (s.sp - 2)) (pack s.p true)
      (busStore (stackAddress (s.sp - 1)) (lo8 (s.pc + 1)) (busStore (stackAddress s.sp) (hi8 (s.pc + 1)) s))
    exec .brk s = .next { u with
      sp := s.sp - 3, p := { s.p with i := true }, pc := (read16 0xFFFE u).1, cycles := s.cycles + 7 }

/-- R162, R209: RTI completes: it pops the flags, all but B, then PC, low byte first, with no + 1. The order of the two
PC bytes is the spec's decision D4 (R106). -/
def Obligations.RtiReturns : Prop :=
  ∀ s : State,
    let f := (busRead (stackAddress (s.sp + 1)) s).1
    let ret := w16 (busRead (stackAddress (s.sp + 3)) s).1 (busRead (stackAddress (s.sp + 2)) s).1
    exec .rti s = .next { s with
      p := ⟨f.getLsbD 7, f.getLsbD 6, s.p.b, f.getLsbD 3, f.getLsbD 2, f.getLsbD 1, f.getLsbD 0⟩
      sp := s.sp + 3, pc := ret, cycles := s.cycles + 6 }

/-- R20, R21: the bits of the status image: N 7, V 6, a constant 1 at 5, the break bit 4, D 3, I 2, Z 1, C 0; unpacking
takes six flags back and leaves B. The places of N, V, D, I, Z and C are the spec's decision D5. -/
def Obligations.StatusImage : Prop :=
  ∀ (p q : Flags) (b : Bool),
    (pack p b).getLsbD 7 = p.n ∧ (pack p b).getLsbD 6 = p.v ∧ (pack p b).getLsbD 5 = true ∧
    (pack p b).getLsbD 4 = b ∧ (pack p b).getLsbD 3 = p.d ∧ (pack p b).getLsbD 2 = p.i ∧
    (pack p b).getLsbD 1 = p.z ∧ (pack p b).getLsbD 0 = p.c ∧ unpack (pack p b) q = { p with b := q.b }

/-- R163 to R169: each flag instruction completes and changes its one flag. -/
def Obligations.FlagInstructions : Prop :=
  ∀ s : State,
    let left (p : Flags) : Result := .next { s with p := p, cycles := s.cycles + 2 }
    exec .clc s = left { s.p with c := false } ∧ exec .sec s = left { s.p with c := true } ∧
    exec .cli s = left { s.p with i := false } ∧ exec .sei s = left { s.p with i := true } ∧
    exec .clv s = left { s.p with v := false } ∧ exec .cld s = left { s.p with d := false } ∧
    exec .sed s = left { s.p with d := true }

/-- R170, R180: every NOP completes. Under `NOP_READS_OPERAND = false` the form without the page-cross flag changes
only PC and cycles, and the flagged one computes its address, with its page-cross cycle; under `true` a memory form
makes its one read. Which operand bytes are fetched is log 10. -/
def Obligations.NopInstructions : Prop :=
  ∀ (i : Instr) (d : Descriptor) (s : State), i.descriptor = some d → d.mnemonic = .nop →
    let s1 := s.addCycles d.baseCycles
    let pc := s.pc + BitVec.ofNat 16 (d.length - 1)
    ((i.operand = none ∨ d.mode = .immediate) → exec i s = .next { s1 with pc := pc }) ∧
    (∀ o, i.operand = some o → d.mode ≠ .immediate →
      (s.params.nopReadsOperand = false → d.addCycleOnPageCross = false → exec i s = .next { s1 with pc := pc }) ∧
      (s.params.nopReadsOperand = false → d.addCycleOnPageCross = true →
        exec i s = .next { (effectiveAddress true o s1).2 with pc := pc }) ∧
      (s.params.nopReadsOperand = true →
        exec i s = .next { (readOperand d.addCycleOnPageCross o s1).2 with pc := pc }))

/-- R181: each JAM opcode completes by halting the CPU, with PC after the opcode and two cycles added. -/
def Obligations.JamHalts : Prop :=
  ∀ (i : Instr) (d : Descriptor) (s : State), i.descriptor = some d → d.mnemonic = .jam →
    exec i s = .next { s with halted := true, cycles := s.cycles + 2 }

/-- R182 to R186: under `STUB_POLICY = Nmos` ANC, ALR, ARR, SBX and LAS complete with the effects their rules give. -/
def Obligations.StableStubsUnderNmos : Prop :=
  ∀ (i : Instr) (o : Operand) (d : Descriptor) (s : State), i.descriptor = some d → i.operand = some o →
    s.params.stubPolicy = .nmos →
    let m := readOperand d.addCycleOnPageCross o (s.addCycles d.baseCycles)
    let pc := s.pc + BitVec.ofNat 16 (d.length - 1)
    let am := s.a &&& m.1
    let half := BitVec.ofNat 8 (am.toNat / 2)
    let rored := BitVec.ofNat 8 (am.toNat / 2 + 128 * s.p.c.toNat)
    let ax := s.a &&& s.x
    let v := m.1 &&& s.sp
    (d.mnemonic = .anc → exec i s = .next { m.2 with
      a := am, p := { s.p with z := am == 0, n := am.getLsbD 7, c := am.getLsbD 7 }, pc := pc }) ∧
    (d.mnemonic = .alr → exec i s = .next { m.2 with
      a := half, p := { s.p with z := half == 0, n := false, c := am.getLsbD 0 }, pc := pc }) ∧
    (d.mnemonic = .arr → exec i s = .next { m.2 with
      a := rored
      p := { s.p with
        z := rored == 0, n := rored.getLsbD 7, c := rored.getLsbD 6, v := rored.getLsbD 6 ^^ rored.getLsbD 5 }
      pc := pc }) ∧
    (d.mnemonic = .sbx → exec i s = .next { m.2 with
      x := ax - m.1
      p := { s.p with z := ax - m.1 == 0, n := (ax - m.1).getLsbD 7, c := decide (m.1.toNat ≤ ax.toNat) }
      pc := pc }) ∧
    (d.mnemonic = .las → exec i s = .next { m.2 with
      a := v, x := v, sp := v, p := { s.p with z := v == 0, n := v.getLsbD 7 }, pc := pc })

/-- R182 to R192, R195: the unstable six always, and the stable five under `STUB_POLICY = Refuse`, end with
`Refused(op)`: the base cycles are added and the mark is set, and nothing else, no operand byte read. -/
def Obligations.StubsRefused : Prop :=
  ∀ (i : Instr) (d : Descriptor) (s : State), i.descriptor = some d →
    d.unstable = true ∨ (d.mnemonic ∈ [Mnemonic.anc, .alr, .arr, .sbx, .las] ∧ s.params.stubPolicy = .refuse) →
    exec i s = .refused (.refusedOpcode d.code { s.addCycles d.baseCycles with refused := some d.code })

/-! ### Operands and the bus -/

/-- R88 to R99: the effective address of every mode, the reads that computing it makes, in their order and with their side
effects, and the page-cross cycle of the indexed modes. That the operand bytes are read here, their value standing in the
instruction, is log 9; that an immediate operand is read later, as data, is log 11. -/
def Obligations.EffectiveAddresses : Prop :=
  ∀ (flagged : Bool) (s : State) (b : Byte) (w : Word) (off : Int),
    let f8 : State := (busRead s.pc s).2
    let f16 : State := (busRead (s.pc + 1) f8).2
    let pointer (z : Byte) : Word × State :=
      let l := busRead (zext16 z) f8
      let h := busRead (zext16 (z + 1)) l.2
      (w16 h.1 l.1, h.2)
    let cross (base ea : Word) (t : State) : State :=
      if flagged = true ∧ hi8 ea ≠ hi8 base then { t with cycles := t.cycles + 1 } else t
    effectiveAddress flagged (.immediate b) s = (s.pc, s) ∧
    effectiveAddress flagged (.zeropage b) s = (zext16 b, f8) ∧
    effectiveAddress flagged (.zeropageX b) s = (zext16 (b + s.x), f8) ∧
    effectiveAddress flagged (.zeropageY b) s = (zext16 (b + s.y), f8) ∧
    effectiveAddress flagged (.absolute w) s = (w, f16) ∧
    effectiveAddress flagged (.absoluteX w) s = (w + zext16 s.x, cross w (w + zext16 s.x) f16) ∧
    effectiveAddress flagged (.absoluteY w) s = (w + zext16 s.y, cross w (w + zext16 s.y) f16) ∧
    effectiveAddress flagged (.relative off) s = (s.pc + 1 + BitVec.ofInt 16 off, f8) ∧
    (effectiveAddress flagged (.indirect w) s =
      let l := busRead w f16
      let h := busRead ((w &&& 0xFF00) ||| ((w + 1) &&& 0x00FF)) l.2
      (w16 h.1 l.1, h.2)) ∧
    effectiveAddress flagged (.indirectX b) s = pointer (b + s.x) ∧
    effectiveAddress flagged (.indirectY b) s =
      ((pointer b).1 + zext16 s.y, cross (pointer b).1 ((pointer b).1 + zext16 s.y) (pointer b).2)

/-- R54, R88, R101: which byte an operand read returns and what it changes. An immediate operand is the instruction's own
byte, with the bus read of that byte at PC (log 11); every other operand is the one bus read at its effective address. It
changes no register, flag, latch, mark or memory of the machine: only PPU registers, the gamepad index and the count of
host bytes (where it reads a device), and at most one cycle. -/
def Obligations.OperandReadsChangeOnlyDevices : Prop :=
  ∀ (flagged : Bool) (o : Operand) (s : State),
    let t := (readOperand flagged o s).2
    (∀ b, o = .immediate b → readOperand flagged o s = (b, (busRead s.pc s).2)) ∧
    (o.mode ≠ .immediate →
      readOperand flagged o s = busRead (effectiveAddress flagged o s).1 (effectiveAddress flagged o s).2) ∧
    t = { s with ppu := t.ppu, pad := t.pad, draws := t.draws, cycles := t.cycles } ∧
    (t.cycles = s.cycles ∨ (flagged = true ∧ t.cycles = s.cycles + 1)) ∧
    t.ppu.vram = s.ppu.vram ∧ t.ppu.palette = s.ppu.palette ∧ t.ppu.oam = s.ppu.oam ∧ t.ppu.fb = s.ppu.fb ∧
    t.pad.strobe = s.pad.strobe ∧ t.pad.snapshot = s.pad.snapshot

/-- R101, R112: an instruction that writes memory at its effective address changes no other stored byte: every address
that is not a mirror of the effective address reads as before; and PPU memory changes only through the PPU registers
and OAM DMA. -/
def Obligations.StoresChangeOnlyTheStoredByte : Prop :=
  ∀ (i : Instr) (o : Operand) (d : Descriptor) (s t : State), i.descriptor = some d → i.operand = some o →
    d.mnemonic ∈ storingMnemonics → exec i s = .next t →
    let e := effectiveAddress d.addCycleOnPageCross o (s.addCycles d.baseCycles)
    (∀ a : Word, s.region a ≠ s.region e.1 → storedByte t a = storedByte s a) ∧
    ((∀ r, s.region e.1 ≠ .ppu r) → s.region e.1 ≠ .oamDma →
      t.ppu.vram = s.ppu.vram ∧ t.ppu.palette = s.ppu.palette ∧ t.ppu.oam = s.ppu.oam ∧ t.ppu.fb = s.ppu.fb)

/-- R103, R125, R127, R159, R161: PHA, PHP, JSR and BRK write the stack page only, the bytes at SP, SP - 1 and SP - 2
at most: every address that is not a mirror of one of them reads as before. -/
def Obligations.PushesChangeOnlyTheStack : Prop :=
  ∀ (i : Instr) (d : Descriptor) (s t : State), i.descriptor = some d → d.mnemonic ∈ pushingMnemonics →
    exec i s = .next t →
    (∀ a : Word, s.region a ≠ s.region (stackAddress s.sp) → s.region a ≠ s.region (stackAddress (s.sp - 1)) →
      s.region a ≠ s.region (stackAddress (s.sp - 2)) → storedByte t a = storedByte s a) ∧
    (d.mnemonic = .pha ∨ d.mnemonic = .php →
      ∀ a : Word, s.region a ≠ s.region (stackAddress s.sp) → storedByte t a = storedByte s a) ∧
    t.ppu.vram = s.ppu.vram ∧ t.ppu.palette = s.ppu.palette ∧ t.ppu.oam = s.ppu.oam ∧ t.ppu.fb = s.ppu.fb

/-- R101: every other instruction, and the accumulator form of a shift, leaves every byte of memory as it was. -/
def Obligations.OtherInstructionsKeepMemory : Prop :=
  ∀ (i : Instr) (d : Descriptor) (s t : State), i.descriptor = some d →
    d.mnemonic ∉ storingMnemonics ++ pushingMnemonics ∨ (d.mnemonic ∈ storingMnemonics ∧ i.operand = none) →
    exec i s = .next t →
    (∀ a : Word, storedByte t a = storedByte s a) ∧
    t.ppu.vram = s.ppu.vram ∧ t.ppu.palette = s.ppu.palette ∧ t.ppu.oam = s.ppu.oam ∧ t.ppu.fb = s.ppu.fb

/-- R44 to R54: what a CPU read returns in each region of the NES bus, and that only PPU registers, 0x4016 and 0x4017
have a side effect. The byte at 0x4017 is free (log 5). -/
def Obligations.NesBusReads : Prop :=
  ∀ (s : State) (a : Word), s.params.busVariant = .nes →
    let n := a.toNat
    (n ≤ 0x1FFF → busRead a s = (s.wram.read (n % 0x0800), s)) ∧
    (0x2000 ≤ n → n ≤ 0x3FFF → busRead a s =
      ((ppuRead s.params.paletteMirror s.cart (ppuReg n) s.ppu).1,
        { s with ppu := (ppuRead s.params.paletteMirror s.cart (ppuReg n) s.ppu).2 })) ∧
    (isApuAddress n = true → n ≠ 0x4017 → busRead a s = (s.apu.read n, s)) ∧
    (n = 0x4014 → busRead a s = (0, s)) ∧
    (n = 0x4016 → busRead a s =
      if s.pad.strobe = true then (s.buttons &&& 1, s)
      else ((s.pad.snapshot >>> s.pad.index.toNat) &&& 1,
        { s with pad := { s.pad with index := BitVec.ofNat 3 (min (s.pad.index.toNat + 1) 7) } })) ∧
    (n = 0x4017 → ∃ v, busRead a s = (v, { s with draws := s.draws + 1 })) ∧
    (0x4018 ≤ n → n ≤ 0x7FFF → busRead a s = (0, s)) ∧
    (0x8000 ≤ n → busRead a s = (s.cart.prg.read ((n - 0x8000) % s.cart.prgSize.bytes), s))

/-- R27 to R29, R43, R45, R47, R50 to R54: a store to work RAM, to the APU shadow or, under `FlatRam`, to any address
changes that one memory and nothing else: no register, flag, latch or PPU register. The stored byte is read back: in work
RAM through each of its four mirrors, in the APU shadow, and everywhere under `FlatRam`, where a read returns `ram[a]` and
changes nothing. A write to an unbacked address or, under `Ignore`, to PRG ROM changes nothing. Memories are canonical
(log 8), as `InvariantKeptByStep` keeps them. -/
def Obligations.StoredBytesReadBack : Prop :=
  ∀ (s : State) (a b : Word) (v : Byte), s.memoriesOk = true →
    (s.params.busVariant = .nes → a.toNat ≤ 0x1FFF → b.toNat ≤ 0x1FFF → a.toNat % 0x0800 = b.toNat % 0x0800 →
      busStore a v s = { s with wram := s.wram.write (a.toNat % 0x0800) v } ∧ (busRead b (busStore a v s)).1 = v) ∧
    (s.params.busVariant = .nes → isApuAddress a.toNat = true → a.toNat ≠ 0x4017 →
      busStore a v s = { s with apu := s.apu.write a.toNat v } ∧ (busRead a (busStore a v s)).1 = v) ∧
    (s.params.busVariant = .nes → a.toNat = 0x4017 → busStore a v s = { s with apu := s.apu.write 0x4017 v }) ∧
    (s.params.busVariant = .flatRam →
      busStore a v s = { s with ram := s.ram.write a.toNat v } ∧ busRead a s = (s.ram.read a.toNat, s) ∧
      (busRead a (busStore a v s)).1 = v) ∧
    (s.params.busVariant = .nes → 0x4018 ≤ a.toNat → busStore a v s = s)

/-! ### The PPU, the gamepad port, OAM DMA -/

/-- R46, R213, R216: what a CPU write does to each PPU register, at 0x2000 to 0x2007 and their mirrors; the databus
always takes the byte. A write of DATA is the DATA port's `ppuWrite` of `DataPort`. -/
def Obligations.PpuRegisterWrites : Prop :=
  ∀ (s : State) (a : Word) (v : Byte), s.params.busVariant = .nes → 0x2000 ≤ a.toNat → a.toNat ≤ 0x3FFF →
    let q : Ppu := { s.ppu with databus := v }
    let shifted : Word := BitVec.ofNat 16 (s.ppu.latch.toNat % 256 * 256 + v.toNat)
    (a.toNat % 8 = 0 → busStore a v s = { s with ppu := { q with ctrl := v } }) ∧
    (a.toNat % 8 = 1 → busStore a v s = { s with ppu := { q with mask := v } }) ∧
    (a.toNat % 8 = 2 → busStore a v s = { s with ppu := q }) ∧
    (a.toNat % 8 = 3 → busStore a v s = { s with ppu := { q with oamAddr := v } }) ∧
    (a.toNat % 8 = 4 → busStore a v s =
      { s with ppu := { q with oam := s.ppu.oam.write s.ppu.oamAddr.toNat v, oamAddr := s.ppu.oamAddr + 1 } }) ∧
    (a.toNat % 8 = 5 ∨ a.toNat % 8 = 6 → busStore a v s = { s with ppu := { q with latch := shifted } }) ∧
    (a.toNat % 8 = 7 → busStore a v s =
      { s with ppu := ppuWrite s.params.paletteMirror s.cart .data v s.ppu })

/-- R34, R46, R213, R214, R215: what a CPU read of each PPU register returns and changes, at 0x2000 to 0x2007 and their
mirrors. STATUS shows vblank at bit 7, zeros at 6 and 5 and the databus below, clears vblank and resets the latch; a
write-only register returns the databus; a read of DATA is the DATA port's `ppuRead` of `DataPort`. -/
def Obligations.PpuRegisterReads : Prop :=
  ∀ (s : State) (a : Word), s.params.busVariant = .nes → 0x2000 ≤ a.toNat → a.toNat ≤ 0x3FFF →
    let status : Byte := BitVec.ofNat 8 (128 * s.ppu.vblank.toNat + s.ppu.databus.toNat % 32)
    let sprite := s.ppu.oam.read s.ppu.oamAddr.toNat
    (a.toNat % 8 = 2 → busRead a s =
      (status, { s with ppu := { s.ppu with vblank := false, latch := 0, databus := status } })) ∧
    (a.toNat % 8 = 4 → busRead a s = (sprite, { s with ppu := { s.ppu with databus := sprite } })) ∧
    (a.toNat % 8 ≠ 2 → a.toNat % 8 ≠ 4 → a.toNat % 8 ≠ 7 → busRead a s = (s.ppu.databus, s)) ∧
    (a.toNat % 8 = 7 →
      let q := ppuRead s.params.paletteMirror s.cart .data s.ppu
      busRead a s = (q.1, { s with ppu := q.2 }))

/-- R217 to R222: a DATA read and a DATA write, by the PPU address in the latch. -/
def Obligations.DataPort : Prop :=
  ∀ (mirror : Bool) (c : Cart) (p : Ppu) (v : Byte),
    let a := p.latch.toNat % 0x4000
    let next : Word := p.latch + (if p.ctrl.getLsbD 2 = true then 32 else 1)
    let nametable (k : Nat) : Nat :=
      if c.mirroring = .horizontal then (if k % 0x2000 ≥ 0x0800 then 0x0400 + k % 0x0400 else k % 0x0400)
      else k % 0x0800
    let entry : Nat :=
      if mirror = true ∧ a % 32 ∈ [0x10, 0x14, 0x18, 0x1C] then a % 32 - 0x10 else a % 32
    let buffered (b : Byte) : Byte × Ppu :=
      (p.readBuffer, { p with readBuffer := b, latch := next, databus := p.readBuffer })
    (a < 0x2000 →
      ppuRead mirror c .data p = buffered (if a < c.chrLen then c.chr.read a else 0) ∧
      ppuWrite mirror c .data v p = { p with latch := next, databus := v }) ∧
    (0x2000 ≤ a → a < 0x3F00 →
      ppuRead mirror c .data p = buffered (p.vram.read (nametable a)) ∧
      ppuWrite mirror c .data v p =
        { p with vram := p.vram.write (nametable a) v, latch := next, databus := v }) ∧
    (0x3F00 ≤ a →
      ppuRead mirror c .data p = (p.palette.read entry,
        { p with
          readBuffer := p.vram.read (nametable (a - 0x1000)), latch := next, databus := p.palette.read entry }) ∧
      ppuWrite mirror c .data v p =
        { p with palette := p.palette.write entry v, latch := next, databus := v })

/-- R49, R230, R231: the gamepad port: strobing, the snapshot, the order of the buttons and Right repeated. -/
def Obligations.GamepadPort : Prop :=
  ∀ (s : State) (v : Byte), s.params.busVariant = .nes →
    (v.getLsbD 0 = true →
      busStore 0x4016 v s = { s with pad := ⟨true, 0, s.pad.snapshot⟩ }) ∧
    (v.getLsbD 0 = false →
      busStore 0x4016 v s = { s with pad := ⟨false, 0, s.buttons⟩ }) ∧
    (s.pad.strobe = true → busRead 0x4016 s = (s.buttons &&& 1, s)) ∧
    (s.pad.strobe = false →
      busRead 0x4016 s = ((s.pad.snapshot >>> s.pad.index.toNat) &&& 1,
        { s with pad := { s.pad with index := BitVec.ofNat 3 (min (s.pad.index.toNat + 1) 7) } }))

/-- R223: one PPU cycle. Within a line only the cycle counter moves; at its end the finished line is rendered if it is
below 240, and the next line's events happen: sprites at 240, vblank and, when CTRL bit 7 is 1, NMI at 241, the wrap at
262. -/
def Obligations.ScanlineEvents : Prop :=
  ∀ (c : Cart) (p : Ppu), p.countersOk = true →
    let q : Ppu := { p with cycle := 0, scanline := p.scanline + 1 }
    let line := p.scanline.toNat
    (p.cycle.toNat < 340 → ppuCycle c p = { p with cycle := p.cycle + 1 }) ∧
    (p.cycle.toNat = 340 →
      (line < 239 → ppuCycle c p = renderBg c line q) ∧
      (line = 239 → ppuCycle c p = renderSprites c (renderBg c line q)) ∧
      (line = 240 → ppuCycle c p = { q with vblank := true, nmiOut := p.nmiOut || p.ctrl.getLsbD 7 }) ∧
      (241 ≤ line → line < 261 → ppuCycle c p = q) ∧
      (line = 261 → ppuCycle c p = { q with scanline := 0, vblank := false }))

/-- R225, R226: what `render_bg` leaves in each pixel: on its line the universal background colour or the sub-palette
entry of the tile's 2-bit value, elsewhere the pixel as it was. That nametable 0 is read and the plane at offset 0 gives
bit 0 are the spec's decisions D33 and D34. -/
def Obligations.BackgroundPixels : Prop :=
  ∀ (c : Cart) (p : Ppu) (s y x : Nat), s < 240 → y < 240 → x < 256 →
    let tile := (p.vram.read (s / 8 * 32 + x / 8)).toNat
    let plane := (if p.ctrl.getLsbD 4 = true then 0x1000 else 0) + tile * 16 + s % 8
    let chrByte (k : Nat) : Byte := if k < c.chrLen then c.chr.read k else 0
    let bit := 7 - x % 8
    let val := 2 * ((chrByte (plane + 8)).getLsbD bit).toNat + ((chrByte plane).getLsbD bit).toNat
    let attr := (p.vram.read (0x3C0 + s / 8 / 4 * 8 + x / 8 / 4)).toNat
    let quadrant := (if x / 8 % 4 ≥ 2 then 2 else 0) + (if s / 8 % 4 ≥ 2 then 4 else 0)
    let colour := if val = 0 then p.palette.read 0 else p.palette.read (attr / 2 ^ quadrant % 4 * 4 + val)
    (renderBg c s p).fb.read (y * 256 + x) = (if y = s then colour else p.fb.read (y * 256 + x))

/-- R227: what `render_sprites` leaves in each pixel: the byte of the lowest-numbered sprite that is not transparent
there, else the pixel as it was. Memories are canonical (log 8), as `InvariantKeptByStep` keeps them. -/
def Obligations.SpritePixels : Prop :=
  ∀ (c : Cart) (p : Ppu) (y x : Nat), y < 240 → x < 256 → p.memoriesOk = true →
    (renderSprites c p).fb.read (y * 256 + x) =
      (((List.range 64).findSome? (spriteByte c p y x)).getD (p.fb.read (y * 256 + x)))

/-- R48, R229: a write of `page` to 0x4014: nothing under `NoOp`. Under `Copy`, from whatever page, 256 bus reads of the
page in rising order (log 24), each with its side effects (`u k` is the state before the k-th), each byte going to OAM at
`oam_addr` plus its index modulo 256; then the DMA cycles are added. From a page without PPU or port registers (work RAM,
open bus, PRG ROM) OAM takes the 256 bytes of the page and nothing else changes. Memories are canonical (log 8), as
`InvariantKeptByStep` keeps them. -/
def Obligations.OamDmaCopies : Prop :=
  ∀ (s : State) (page : Byte), s.memoriesOk = true → s.params.busVariant = .nes →
    (s.params.oamDmaMode = .noOp → busStore 0x4014 page s = s) ∧
    (s.params.oamDmaMode = .copy → ∃ u : Nat → State, u 0 = s ∧
      (∀ k : Nat, k < 256 →
        let q := busRead (w16 page (BitVec.ofNat 8 k)) (u k)
        u (k + 1) = { q.2 with
          ppu := { q.2.ppu with oam := q.2.ppu.oam.write ((q.2.ppu.oamAddr.toNat + k) % 256) q.1 } }) ∧
      busStore 0x4014 page s = { u 256 with cycles := (u 256).cycles + s.params.oamDmaCycles }) ∧
    (s.params.oamDmaMode = .copy → page.toNat < 0x20 ∨ 0x41 ≤ page.toNat →
      let t := busStore 0x4014 page s
      t = { s with ppu := { s.ppu with oam := t.ppu.oam }, cycles := s.cycles + s.params.oamDmaCycles } ∧
      ∀ k : Nat, k < 256 →
        t.ppu.oam.read ((s.ppu.oamAddr.toNat + k) % 256) =
          if page.toNat < 0x20 then s.wram.read ((page.toNat * 256 + k) % 0x0800)
          else if page.toNat < 0x80 then 0
          else s.cart.prg.read ((page.toNat * 256 + k - 0x8000) % s.cart.prgSize.bytes))

/-! ### Cartridge and assembler -/

/-- R241: an image is admitted exactly when its header has the magic, version 0, mapper 0 and one or two PRG units and
the payload is there; the cartridge then holds the image's PRG and CHR bytes, after the trainer if there is one, and the
mirroring of byte 6. -/
def Obligations.CartridgeAdmission : Prop :=
  ∀ file : List Byte,
    let byte (k : Nat) : Byte := file.getD k 0
    let start := 16 + (if (byte 6).getLsbD 2 = true then 512 else 0)
    let prgLen := 16384 * (byte 4).toNat
    let chrLen := 8192 * (byte 5).toNat
    let ok := file.take 4 = [0x4E, 0x45, 0x53, 0x1A] ∧ byte 7 &&& 0x0C = 0 ∧
      (byte 7 &&& (0xF0 : Byte)) ||| (byte 6 >>> 4) = 0 ∧ (byte 4 = 1 ∨ byte 4 = 2) ∧
      start + prgLen + chrLen ≤ file.length
    (¬ ok → ∃ e, admitImage file = .error e) ∧
    (ok → ∃ c, admitImage file = .ok c ∧ c.wellFormed = true ∧ c.prgSize.bytes = prgLen ∧ c.chrLen = chrLen ∧
      c.mirroring = (if (byte 6).getLsbD 3 = true then .fourScreen
        else if (byte 6).getLsbD 0 = true then .vertical else .horizontal) ∧
      (∀ k, k < prgLen → c.prg.read k = byte (start + k)) ∧
      (∀ k, k < chrLen → c.chr.read k = byte (start + prgLen + k)))

/-- R84: for every documented non-branch opcode, assembling the canonical mnemonic and operand gives the instruction's
encoding, whatever the operand's value, and its first byte is the descriptor's code. -/
def Obligations.CanonicalTextAssembles : Prop :=
  ∀ (i : Instr) (d : Descriptor) (text : List Char), i.descriptor = some d → d.illegal = false →
    canonicalText d.mnemonic i.operand = some text →
      assemble text = .ok (encode i) ∧ (encode i).head? = some d.code
end

