-- ==== Sys2Proof/Laws/Assembler.lean ====
section
/-! SUPPORT. Hexadecimal text: each digit reads back as its value, and the lexer turns `$nn` and `$nnnn` into their tokens. -/

namespace Sys2Proof.Machine

theorem hexDigit_hexChar : ∀ n < 16, hexDigit (hexChar n) = some n := by decide

/-- Nothing at the head of the text is a hexadecimal digit. -/
def EndsHex (rest : List Char) : Prop := rest.takeWhile (fun d => (hexDigit d).isSome) = []

theorem hexLiteral_text8 (v : Byte) :
    hexLiteral [hexChar (v.toNat / 16), hexChar (v.toNat % 16)] = some (.hex8 v) := by
  have h := v.isLt
  simp only [hexLiteral, hexValue, List.length_cons, List.length_nil, List.foldl_cons, List.foldl_nil,
    hexDigit_hexChar (v.toNat / 16) (by omega), hexDigit_hexChar (v.toNat % 16) (by omega), Option.getD_some]
  rw [if_pos True.intro]
  congr 2
  apply BitVec.eq_of_toNat_eq
  simp only [BitVec.toNat_ofNat]
  omega

theorem hexLiteral_text16 (w : Word) : hexLiteral [hexChar (w.toNat / 4096), hexChar (w.toNat / 256 % 16),
    hexChar (w.toNat / 16 % 16), hexChar (w.toNat % 16)] = some (.hex16 w) := by
  have h := w.isLt
  simp only [hexLiteral, hexValue, List.length_cons, List.length_nil, List.foldl_cons, List.foldl_nil,
    hexDigit_hexChar (w.toNat / 4096) (by omega), hexDigit_hexChar (w.toNat / 256 % 16) (by omega),
    hexDigit_hexChar (w.toNat / 16 % 16) (by omega), hexDigit_hexChar (w.toNat % 16) (by omega), Option.getD_some]
  rw [if_neg (by decide), if_pos True.intro]
  congr 2
  apply BitVec.eq_of_toNat_eq
  simp only [BitVec.toNat_ofNat]
  omega

theorem takeWhile_hexChar {n : Nat} (hn : n < 16) (rest : List Char) :
    (hexChar n :: rest).takeWhile (fun d => (hexDigit d).isSome) =
      hexChar n :: rest.takeWhile (fun d => (hexDigit d).isSome) := by
  rw [List.takeWhile_cons_of_pos (by rw [hexDigit_hexChar n hn]; rfl)]

/-- The lexer on a `$` literal. -/
theorem lex_dollar (fuel : Nat) {cs ds : List Char} {t : Token}
    (h : cs.takeWhile (fun d => (hexDigit d).isSome) = ds) (hl : hexLiteral ds = some t) :
    lex (fuel + 1) ('$' :: cs) = putToken t (lex fuel (cs.drop ds.length)) := by
  rw [lex]
  rw [if_neg (by decide), if_neg (by decide), if_neg (by decide), if_neg (by decide), if_neg (by decide),
    if_neg (by decide), if_pos (by decide)]
  simp only [h, hl]

/-- The lexer on `$nn`. -/
theorem lex_hexText8 (fuel : Nat) (v : Byte) {rest : List Char} (hr : EndsHex rest) :
    lex (fuel + 1) (hexText8 v ++ rest) = putToken (.hex8 v) (lex fuel rest) := by
  have h := v.isLt
  have ht : (hexChar (v.toNat / 16) :: hexChar (v.toNat % 16) :: rest).takeWhile (fun d => (hexDigit d).isSome) =
      [hexChar (v.toNat / 16), hexChar (v.toNat % 16)] := by
    rw [takeWhile_hexChar (by omega), takeWhile_hexChar (by omega), hr]
  exact lex_dollar fuel ht (hexLiteral_text8 v)

/-- The lexer on `$nnnn`. -/
theorem lex_hexText16 (fuel : Nat) (w : Word) {rest : List Char} (hr : EndsHex rest) :
    lex (fuel + 1) (hexText16 w ++ rest) = putToken (.hex16 w) (lex fuel rest) := by
  have h := w.isLt
  have ht : (hexChar (w.toNat / 4096) :: hexChar (w.toNat / 256 % 16) :: hexChar (w.toNat / 16 % 16) ::
      hexChar (w.toNat % 16) :: rest).takeWhile (fun d => (hexDigit d).isSome) =
      [hexChar (w.toNat / 4096), hexChar (w.toNat / 256 % 16), hexChar (w.toNat / 16 % 16),
        hexChar (w.toNat % 16)] := by
    rw [takeWhile_hexChar (by omega), takeWhile_hexChar (by omega), takeWhile_hexChar (by omega),
      takeWhile_hexChar (by omega), hr]
  exact lex_dollar fuel ht (hexLiteral_text16 w)

end Sys2Proof.Machine
end

