-- ==== Sys2Proof/Laws/Memory.lean ====
section
/-! SUPPORT. Reading after writing, and that every memory operation keeps the canonical form and the size. -/

namespace Sys2Proof

@[simp] theorem Memory.read_nil (a : Nat) : Memory.read [] a = 0 := rfl

theorem Memory.read_cons (b : Nat) (v : Byte) (m : Memory) (a : Nat) :
    Memory.read ((b, v) :: m) a = if b = a then v else Memory.read m a := rfl

theorem Memory.wfFrom_cons {lo b : Nat} {v : Byte} {m : Memory} :
    Memory.wfFrom lo ((b, v) :: m) = true ↔ lo ≤ b ∧ v ≠ 0 ∧ Memory.wfFrom (b + 1) m = true := by
  simp [Memory.wfFrom, and_assoc]

theorem Memory.wfFrom_mono {lo lo' : Nat} {m : Memory} (h : lo' ≤ lo) (hm : Memory.wfFrom lo m = true) :
    Memory.wfFrom lo' m = true := by
  cases m with
  | nil => rfl
  | cons c m =>
    obtain ⟨b, v⟩ := c
    rw [Memory.wfFrom_cons] at hm ⊢
    exact ⟨by omega, hm.2⟩

/-- A canonical memory lists nothing below its bound. -/
theorem Memory.read_lt {lo : Nat} {m : Memory} (hm : Memory.wfFrom lo m = true) {a : Nat} (h : a < lo) :
    m.read a = 0 := by
  induction m generalizing lo with
  | nil => rfl
  | cons c m ih =>
    obtain ⟨b, v⟩ := c
    rw [Memory.wfFrom_cons] at hm
    rw [Memory.read_cons, if_neg (by omega), ih hm.2.2 (by omega)]

theorem Memory.read_write_other (m : Memory) {a c : Nat} (v : Byte) (h : c ≠ a) :
    (m.write a v).read c = m.read c := by
  induction m with
  | nil =>
    simp only [Memory.write]
    split
    · rfl
    · rw [Memory.read_cons, if_neg (Ne.symm h)]
  | cons e m ih =>
    obtain ⟨b, w⟩ := e
    simp only [Memory.write]
    repeat' split
    · rfl
    · rw [Memory.read_cons, if_neg (Ne.symm h)]
    · rw [Memory.read_cons, if_neg (by omega)]
    · simp only [Memory.read_cons, if_neg (show a ≠ c by omega), if_neg (show b ≠ c by omega)]
    · simp only [Memory.read_cons, ih]

theorem Memory.read_write_same_from {lo : Nat} {m : Memory} (hm : Memory.wfFrom lo m = true) (a : Nat) (v : Byte) :
    (m.write a v).read a = v := by
  induction m generalizing lo with
  | nil =>
    simp only [Memory.write]
    split
    · simp_all
    · rw [Memory.read_cons, if_pos rfl]
  | cons e m ih =>
    obtain ⟨b, w⟩ := e
    rw [Memory.wfFrom_cons] at hm
    simp only [Memory.write]
    repeat' split
    · rw [Memory.read_cons, if_neg (by omega), Memory.read_lt hm.2.2 (by omega)]; simp_all
    · rw [Memory.read_cons, if_pos rfl]
    · rw [Memory.read_lt hm.2.2 (by omega)]; simp_all
    · rw [Memory.read_cons, if_pos rfl]
    · rw [Memory.read_cons, if_neg (by omega), ih hm.2.2]

/-- A canonical memory returns the byte just written. -/
theorem Memory.read_write_same {m : Memory} (hm : m.wf = true) (a : Nat) (v : Byte) : (m.write a v).read a = v :=
  Memory.read_write_same_from hm a v

theorem Memory.read_write {m : Memory} (hm : m.wf = true) (a c : Nat) (v : Byte) :
    (m.write a v).read c = if c = a then v else m.read c := by
  split
  · next h => rw [h, Memory.read_write_same hm]
  · next h => exact Memory.read_write_other m v h

theorem Memory.write_wfFrom {lo : Nat} {m : Memory} (hm : Memory.wfFrom lo m = true) {a : Nat} (h : lo ≤ a)
    (v : Byte) : Memory.wfFrom lo (m.write a v) = true := by
  induction m generalizing lo with
  | nil =>
    simp only [Memory.write]
    split
    · rfl
    · exact Memory.wfFrom_cons.2 ⟨h, ‹_›, rfl⟩
  | cons e m ih =>
    obtain ⟨b, w⟩ := e
    have hm' := hm
    rw [Memory.wfFrom_cons] at hm'
    obtain ⟨h1, h2, h3⟩ := hm'
    simp only [Memory.write]
    repeat' split
    · exact hm
    · exact Memory.wfFrom_cons.2 ⟨h, ‹_›, Memory.wfFrom_cons.2 ⟨by omega, h2, h3⟩⟩
    · exact Memory.wfFrom_mono (by omega) h3
    · exact Memory.wfFrom_cons.2 ⟨h, ‹_›, Memory.wfFrom_mono (by omega) h3⟩
    · exact Memory.wfFrom_cons.2 ⟨h1, h2, ih h3 (by omega)⟩

/-- A write keeps the canonical form. -/
theorem Memory.write_wf {m : Memory} (hm : m.wf = true) (a : Nat) (v : Byte) : (m.write a v).wf = true :=
  Memory.write_wfFrom hm (Nat.zero_le a) v

theorem Memory.below_cons {n b : Nat} {v : Byte} {m : Memory} :
    Memory.below n ((b, v) :: m) = true ↔ b < n ∧ m.below n = true := by simp [Memory.below]

/-- A write below the size keeps every listed address below it. -/
theorem Memory.write_below {n : Nat} {m : Memory} (hm : m.below n = true) {a : Nat} (h : a < n) (v : Byte) :
    (m.write a v).below n = true := by
  induction m with
  | nil =>
    simp only [Memory.write]
    split
    · rfl
    · exact Memory.below_cons.2 ⟨h, rfl⟩
  | cons e m ih =>
    obtain ⟨b, w⟩ := e
    have hm' := Memory.below_cons.1 hm
    simp only [Memory.write]
    repeat' split
    · exact hm
    · exact Memory.below_cons.2 ⟨h, hm⟩
    · exact hm'.2
    · exact Memory.below_cons.2 ⟨h, hm'.2⟩
    · exact Memory.below_cons.2 ⟨hm'.1, ih hm'.2⟩

/-- Every listed address of a memory after a write is the written one or was listed before. -/
theorem Memory.write_all {f : Host.Cell → Bool} {m : Memory} (hm : m.all f = true) {a : Nat} {v : Byte}
    (h : f (a, v) = true) : (m.write a v).all f = true := by
  induction m with
  | nil => simp only [Memory.write]; split <;> simp [h]
  | cons e m ih =>
    obtain ⟨b, w⟩ := e
    simp only [List.all_cons, Bool.and_eq_true] at hm
    simp only [Memory.write]
    repeat' split
    all_goals simp [hm.1, hm.2, h, ih hm.2]

/-! ### Ranges -/

theorem Memory.read_ofBytes (base : Nat) (vs : List Byte) (k : Nat) :
    (Memory.ofBytes base vs).read k = if base ≤ k then vs.getD (k - base) 0 else 0 := by
  induction vs generalizing base with
  | nil => simp [Memory.ofBytes]
  | cons v vs ih =>
    have e : ∀ h : base < k, (v :: vs).getD (k - base) 0 = vs.getD (k - (base + 1)) 0 := by
      intro h
      rw [show k - base = (k - (base + 1)) + 1 by omega, List.getD_cons_succ]
    simp only [Memory.ofBytes]
    split
    · next hv =>
      rw [ih]
      by_cases h : base < k
      · rw [if_pos (by omega), if_pos (by omega), e h]
      · rw [if_neg (by omega)]
        by_cases h' : base ≤ k
        · rw [if_pos h', show k - base = 0 by omega, List.getD_cons_zero, hv]
        · rw [if_neg h']
    · rw [Memory.read_cons, ih]
      by_cases h : base < k
      · rw [if_neg (by omega), if_pos (by omega), if_pos (by omega), e h]
      · by_cases h' : base = k
        · rw [if_pos h', if_pos (by omega), show k - base = 0 by omega, List.getD_cons_zero]
        · rw [if_neg h', if_neg (by omega), if_neg (by omega)]

theorem Memory.ofBytes_wfFrom (base : Nat) (vs : List Byte) : Memory.wfFrom base (Memory.ofBytes base vs) = true := by
  induction vs generalizing base with
  | nil => rfl
  | cons v vs ih =>
    simp only [Memory.ofBytes]
    split
    · exact Memory.wfFrom_mono (by omega) (ih (base + 1))
    · exact Memory.wfFrom_cons.2 ⟨le_rfl, ‹_›, ih (base + 1)⟩

theorem Memory.ofBytes_wf (base : Nat) (vs : List Byte) : (Memory.ofBytes base vs).wf = true :=
  Memory.wfFrom_mono (Nat.zero_le base) (Memory.ofBytes_wfFrom base vs)

theorem Memory.ofBytes_below (base : Nat) (vs : List Byte) {n : Nat} (h : base + vs.length ≤ n) :
    (Memory.ofBytes base vs).below n = true := by
  induction vs generalizing base with
  | nil => rfl
  | cons v vs ih =>
    simp only [List.length_cons] at h
    simp only [Memory.ofBytes]
    split
    · exact ih (base + 1) (by omega)
    · exact Memory.below_cons.2 ⟨by omega, ih (base + 1) (by omega)⟩

theorem Memory.read_filter (m : Memory) (f : Nat → Bool) (k : Nat) :
    Memory.read (m.filter fun c => f c.1) k = if f k then m.read k else 0 := by
  induction m with
  | nil => simp
  | cons e m ih =>
    obtain ⟨b, v⟩ := e
    by_cases hb : f b = true
    · simp only [List.filter_cons, hb, if_true, Memory.read_cons, ih]
      by_cases h : b = k
      · subst h; simp [hb]
      · simp [h]
    · simp only [List.filter_cons, hb, Memory.read_cons]
      by_cases h : b = k
      · subst h; simpa [hb] using ih
      · simpa [h] using ih

/-- A read of two memories, one behind the other. -/
theorem Memory.read_append (m m' : Memory) (k : Nat) :
    Memory.read (m ++ m') k = if m.any (fun c => c.1 == k) then m.read k else Memory.read m' k := by
  induction m with
  | nil => simp
  | cons e m ih =>
    obtain ⟨b, v⟩ := e
    simp only [List.cons_append, Memory.read_cons, List.any_cons, ih]
    by_cases h : b = k <;> simp [h]

theorem Memory.read_unlisted {m : Memory} {k : Nat} (h : m.any (fun c => c.1 == k) = false) : m.read k = 0 := by
  induction m with
  | nil => rfl
  | cons e m ih =>
    obtain ⟨b, v⟩ := e
    simp only [List.any_cons, Bool.or_eq_false_iff, beq_eq_false_iff_ne] at h
    rw [Memory.read_cons, if_neg h.1, ih h.2]

theorem Memory.read_append_zero {m : Memory} (m' : Memory) {k : Nat} (h : m.any (fun c => c.1 == k) = false) :
    Memory.read (m ++ m') k = Memory.read m' k := by
  rw [Memory.read_append, if_neg (by simp [h])]

theorem Memory.read_append_left (m : Memory) {m' : Memory} {k : Nat} (h : m'.any (fun c => c.1 == k) = false) :
    Memory.read (m ++ m') k = Memory.read m k := by
  rw [Memory.read_append]
  split
  · rfl
  · next hm => rw [Memory.read_unlisted h, Memory.read_unlisted (Bool.not_eq_true _ ▸ hm)]

theorem Memory.ofBytes_any {base : Nat} {vs : List Byte} {k : Nat} (h : k < base ∨ base + vs.length ≤ k) :
    (Memory.ofBytes base vs).any (fun c => c.1 == k) = false := by
  induction vs generalizing base with
  | nil => rfl
  | cons v vs ih =>
    simp only [List.length_cons] at h
    simp only [Memory.ofBytes]
    split
    · exact ih (by omega)
    · simp only [List.any_cons, Bool.or_eq_false_iff, beq_eq_false_iff_ne]
      exact ⟨by omega, ih (by omega)⟩

theorem Memory.filter_any {m : Memory} {f : Nat → Bool} {k : Nat} (h : f k = false) :
    (m.filter fun c => f c.1).any (fun c => c.1 == k) = false := by
  rw [List.any_eq_false]
  intro c hc
  simp only [List.mem_filter] at hc
  simp only [beq_iff_eq]
  rintro rfl
  simp [h] at hc

/-- A range write sets the bytes of its range and keeps every other byte. -/
theorem Memory.read_writeRange (m : Memory) (base : Nat) (vs : List Byte) (k : Nat) :
    (m.writeRange base vs).read k =
      if base ≤ k ∧ k < base + vs.length then vs.getD (k - base) 0 else m.read k := by
  have hlo := Memory.filter_any (m := m) (f := fun a => decide (a < base)) (k := k)
  have hhi := Memory.filter_any (m := m) (f := fun a => decide (base + vs.length ≤ a)) (k := k)
  unfold Memory.writeRange
  by_cases h1 : base ≤ k
  · by_cases h2 : k < base + vs.length
    · rw [if_pos ⟨h1, h2⟩, Memory.read_append_left _ (hhi (by simpa using h2)),
        Memory.read_append_zero _ (hlo (by simpa using h1)), Memory.read_ofBytes, if_pos h1]
    · rw [if_neg (by omega), Memory.read_append_zero]
      · exact (Memory.read_filter m (fun a => decide (base + vs.length ≤ a)) k).trans (by simp; omega)
      · rw [List.any_append, hlo (by simpa using h1), Memory.ofBytes_any (by omega)]; rfl
  · rw [if_neg (by omega), Memory.read_append_left _ (hhi (by simp; omega)),
      Memory.read_append_left _ (Memory.ofBytes_any (by omega))]
    exact (Memory.read_filter m (fun a => decide (a < base)) k).trans (by simp; omega)

theorem Memory.filter_wfFrom {lo : Nat} {m : Memory} (hm : Memory.wfFrom lo m = true) (f : Host.Cell → Bool) :
    Memory.wfFrom lo (m.filter f) = true := by
  induction m generalizing lo with
  | nil => rfl
  | cons e m ih =>
    obtain ⟨b, v⟩ := e
    have hm' := Memory.wfFrom_cons.1 hm
    rw [List.filter_cons]
    split
    · exact Memory.wfFrom_cons.2 ⟨hm'.1, hm'.2.1, ih hm'.2.2⟩
    · exact Memory.wfFrom_mono (by omega) (ih hm'.2.2)

/-- Raising the bound: every listed address reaches it. -/
theorem Memory.wfFrom_raise {lo lo' : Nat} {m : Memory} (hm : Memory.wfFrom lo m = true)
    (h : m.all (fun c => decide (lo' ≤ c.1)) = true) : Memory.wfFrom lo' m = true := by
  cases m with
  | nil => rfl
  | cons e m =>
    obtain ⟨b, v⟩ := e
    have hm' := Memory.wfFrom_cons.1 hm
    simp only [List.all_cons, Bool.and_eq_true, decide_eq_true_eq] at h
    exact Memory.wfFrom_cons.2 ⟨h.1, hm'.2⟩

theorem Memory.append_wfFrom {lo mid : Nat} {m m' : Memory} (hm : Memory.wfFrom lo m = true)
    (hb : m.below mid = true) (hm' : Memory.wfFrom mid m' = true) (hl : lo ≤ mid) :
    Memory.wfFrom lo (m ++ m') = true := by
  induction m generalizing lo with
  | nil => exact Memory.wfFrom_mono hl hm'
  | cons e m ih =>
    obtain ⟨b, v⟩ := e
    have h := Memory.wfFrom_cons.1 hm
    have h' := Memory.below_cons.1 hb
    exact Memory.wfFrom_cons.2 ⟨h.1, h.2.1, ih h.2.2 h'.2 (by omega)⟩

/-- A range write keeps the canonical form. -/
theorem Memory.writeRange_wf {m : Memory} (hm : m.wf = true) (base : Nat) (vs : List Byte) :
    (m.writeRange base vs).wf = true := by
  have h1 : Memory.below base (m.filter fun c => decide (c.1 < base)) = true := by
    simp [Memory.below, List.all_eq_true]
  have h2 : Memory.wfFrom (base + vs.length) (m.filter fun c => decide (base + vs.length ≤ c.1)) = true :=
    Memory.wfFrom_raise (Memory.filter_wfFrom hm _) (by simp [List.all_eq_true])
  have h3 := Memory.append_wfFrom (Memory.ofBytes_wfFrom base vs) (Memory.ofBytes_below base vs le_rfl) h2 (by omega)
  rw [Memory.writeRange, List.append_assoc]
  exact Memory.append_wfFrom (Memory.filter_wfFrom hm _) h1 h3 (Nat.zero_le _)

/-- A range write within the size keeps every listed address below it. -/
theorem Memory.writeRange_below {n : Nat} {m : Memory} (hm : m.below n = true) {base : Nat} {vs : List Byte}
    (h : base + vs.length ≤ n) : (m.writeRange base vs).below n = true := by
  have hv := Memory.ofBytes_below base vs h
  simp only [Memory.below, List.all_eq_true] at hm hv
  simp only [Memory.below, Memory.writeRange, List.all_append, Bool.and_eq_true, List.all_eq_true, List.mem_filter]
  exact ⟨⟨fun c hc => hm c hc.1, fun c hc => hv c hc⟩, fun c hc => hm c hc.1⟩

end Sys2Proof
end

