-- ==== Sys2Proof/Laws/Ppu.lean ====
section
/-! SUPPORT. The PPU: what a register access and a PPU cycle can change, that they keep the canonical memories, and how
the counters run. -/

namespace Sys2Proof.Machine

/-! ### Registers -/

theorem mirrorOffset_lt (m : Mirroring) (a : Nat) : mirrorOffset m a < 2048 := by
  unfold mirrorOffset
  cases m <;> simp only <;> (try split) <;> omega

theorem palIndex_lt (mirror : Bool) (a : Nat) : palIndex mirror a < 32 := by
  unfold palIndex
  simp only
  split <;> omega

/-- A DATA read changes only the read buffer and the latch. -/
theorem readData_frame (mi : Bool) (c : Cart) (p : Ppu) :
    (readData mi c p).2 = { p with readBuffer := (readData mi c p).2.readBuffer, latch := stepLatch p } := by
  unfold readData
  simp only
  repeat' split
  all_goals rfl

/-- A register read changes only vblank, the latch, the read buffer and the databus. -/
theorem ppuRead_frame (mi : Bool) (c : Cart) (r : PpuReg) (p : Ppu) :
    (ppuRead mi c r p).2 = { p with
      vblank := (ppuRead mi c r p).2.vblank, latch := (ppuRead mi c r p).2.latch
      readBuffer := (ppuRead mi c r p).2.readBuffer, databus := (ppuRead mi c r p).1 } := by
  cases r
  case data => simp only [ppuRead, readRegister]; rw [readData_frame]
  all_goals rfl

section ppuRead
variable (mi : Bool) (c : Cart) (r : PpuReg) (p : Ppu)
@[simp] theorem ppuRead_vram : (ppuRead mi c r p).2.vram = p.vram := by rw [ppuRead_frame]
@[simp] theorem ppuRead_palette : (ppuRead mi c r p).2.palette = p.palette := by rw [ppuRead_frame]
@[simp] theorem ppuRead_oam : (ppuRead mi c r p).2.oam = p.oam := by rw [ppuRead_frame]
@[simp] theorem ppuRead_fb : (ppuRead mi c r p).2.fb = p.fb := by rw [ppuRead_frame]
@[simp] theorem ppuRead_ctrl : (ppuRead mi c r p).2.ctrl = p.ctrl := by rw [ppuRead_frame]
@[simp] theorem ppuRead_mask : (ppuRead mi c r p).2.mask = p.mask := by rw [ppuRead_frame]
@[simp] theorem ppuRead_oamAddr : (ppuRead mi c r p).2.oamAddr = p.oamAddr := by rw [ppuRead_frame]
@[simp] theorem ppuRead_scanline : (ppuRead mi c r p).2.scanline = p.scanline := by rw [ppuRead_frame]
@[simp] theorem ppuRead_cycle : (ppuRead mi c r p).2.cycle = p.cycle := by rw [ppuRead_frame]
@[simp] theorem ppuRead_nmiOut : (ppuRead mi c r p).2.nmiOut = p.nmiOut := by rw [ppuRead_frame]
end ppuRead

/-- A register write changes only the databus, the written register, the latch and, through OAMDATA and DATA, OAM, VRAM
and palette. -/
theorem ppuWrite_frame (mi : Bool) (c : Cart) (r : PpuReg) (v : Byte) (p : Ppu) :
    ppuWrite mi c r v p = { p with
      ctrl := (ppuWrite mi c r v p).ctrl, mask := (ppuWrite mi c r v p).mask
      oamAddr := (ppuWrite mi c r v p).oamAddr, latch := (ppuWrite mi c r v p).latch, databus := v
      vram := (ppuWrite mi c r v p).vram, palette := (ppuWrite mi c r v p).palette
      oam := (ppuWrite mi c r v p).oam } := by
  cases r
  case data =>
    simp only [ppuWrite, writeRegister, writeData]
    repeat' split
    all_goals rfl
  all_goals rfl

section ppuWrite
variable (mi : Bool) (c : Cart) (r : PpuReg) (v : Byte) (p : Ppu)
@[simp] theorem ppuWrite_fb : (ppuWrite mi c r v p).fb = p.fb := by rw [ppuWrite_frame]
@[simp] theorem ppuWrite_vblank : (ppuWrite mi c r v p).vblank = p.vblank := by rw [ppuWrite_frame]
@[simp] theorem ppuWrite_readBuffer : (ppuWrite mi c r v p).readBuffer = p.readBuffer := by rw [ppuWrite_frame]
@[simp] theorem ppuWrite_databus : (ppuWrite mi c r v p).databus = v := by rw [ppuWrite_frame]
@[simp] theorem ppuWrite_scanline : (ppuWrite mi c r v p).scanline = p.scanline := by rw [ppuWrite_frame]
@[simp] theorem ppuWrite_cycle : (ppuWrite mi c r v p).cycle = p.cycle := by rw [ppuWrite_frame]
@[simp] theorem ppuWrite_nmiOut : (ppuWrite mi c r v p).nmiOut = p.nmiOut := by rw [ppuWrite_frame]
end ppuWrite

theorem Ppu.memoriesOk_iff (p : Ppu) : p.memoriesOk = true ↔
    (p.vram.wf = true ∧ p.vram.below 2048 = true) ∧ (p.palette.wf = true ∧ p.palette.below 32 = true) ∧
    (p.oam.wf = true ∧ p.oam.below 256 = true) ∧ (p.fb.wf = true ∧ p.fb.below 61440 = true) := by
  simp only [Ppu.memoriesOk, Bool.and_eq_true]
  tauto

theorem ppuRead_memoriesOk (mi : Bool) (c : Cart) (r : PpuReg) (p : Ppu) :
    (ppuRead mi c r p).2.memoriesOk = p.memoriesOk := by
  simp [Ppu.memoriesOk]

theorem ppuWrite_memoriesOk (mi : Bool) (c : Cart) (r : PpuReg) (v : Byte) {p : Ppu} (h : p.memoriesOk = true) :
    (ppuWrite mi c r v p).memoriesOk = true := by
  rw [Ppu.memoriesOk_iff] at h ⊢
  obtain ⟨⟨a, a'⟩, ⟨b, b'⟩, ⟨d, d'⟩, e⟩ := h
  cases r
  case oamData =>
    exact ⟨⟨a, a'⟩, ⟨b, b'⟩, ⟨Memory.write_wf d _ _, Memory.write_below d' p.oamAddr.isLt v⟩, e⟩
  case data =>
    simp only [ppuWrite, writeRegister, writeData]
    repeat' split
    · exact ⟨⟨a, a'⟩, ⟨b, b'⟩, ⟨d, d'⟩, e⟩
    · exact ⟨⟨Memory.write_wf a _ _, Memory.write_below a' (mirrorOffset_lt _ _) v⟩, ⟨b, b'⟩, ⟨d, d'⟩, e⟩
    · exact ⟨⟨a, a'⟩, ⟨Memory.write_wf b _ _, Memory.write_below b' (palIndex_lt _ _) v⟩, ⟨d, d'⟩, e⟩
  all_goals exact ⟨⟨a, a'⟩, ⟨b, b'⟩, ⟨d, d'⟩, e⟩

theorem ppuRead_countersOk (mi : Bool) (c : Cart) (r : PpuReg) (p : Ppu) :
    (ppuRead mi c r p).2.countersOk = p.countersOk := by
  simp [Ppu.countersOk]

theorem ppuWrite_countersOk (mi : Bool) (c : Cart) (r : PpuReg) (v : Byte) (p : Ppu) :
    (ppuWrite mi c r v p).countersOk = p.countersOk := by
  simp [Ppu.countersOk]

theorem ppuRead_position (mi : Bool) (c : Cart) (r : PpuReg) (p : Ppu) :
    (ppuRead mi c r p).2.position = p.position := by
  simp [Ppu.position]

theorem ppuWrite_position (mi : Bool) (c : Cart) (r : PpuReg) (v : Byte) (p : Ppu) :
    (ppuWrite mi c r v p).position = p.position := by
  simp [Ppu.position]

/-! ### Rendering -/

/-- The background renderer writes the framebuffer only. -/
theorem renderBg_frame (c : Cart) (n : Nat) (p : Ppu) : renderBg c n p = { p with fb := (renderBg c n p).fb } := by
  rw [renderBg]

/-- The sprite renderer writes the framebuffer only. -/
theorem renderSprites_frame (c : Cart) (p : Ppu) : renderSprites c p = { p with fb := (renderSprites c p).fb } := by
  rw [renderSprites]

section render
variable (c : Cart) (n : Nat) (p : Ppu)
@[simp] theorem renderBg_vram : (renderBg c n p).vram = p.vram := by rw [renderBg_frame]
@[simp] theorem renderBg_palette : (renderBg c n p).palette = p.palette := by rw [renderBg_frame]
@[simp] theorem renderBg_oam : (renderBg c n p).oam = p.oam := by rw [renderBg_frame]
@[simp] theorem renderBg_ctrl : (renderBg c n p).ctrl = p.ctrl := by rw [renderBg_frame]
@[simp] theorem renderBg_mask : (renderBg c n p).mask = p.mask := by rw [renderBg_frame]
@[simp] theorem renderBg_vblank : (renderBg c n p).vblank = p.vblank := by rw [renderBg_frame]
@[simp] theorem renderBg_oamAddr : (renderBg c n p).oamAddr = p.oamAddr := by rw [renderBg_frame]
@[simp] theorem renderBg_latch : (renderBg c n p).latch = p.latch := by rw [renderBg_frame]
@[simp] theorem renderBg_readBuffer : (renderBg c n p).readBuffer = p.readBuffer := by rw [renderBg_frame]
@[simp] theorem renderBg_databus : (renderBg c n p).databus = p.databus := by rw [renderBg_frame]
@[simp] theorem renderBg_scanline : (renderBg c n p).scanline = p.scanline := by rw [renderBg_frame]
@[simp] theorem renderBg_cycle : (renderBg c n p).cycle = p.cycle := by rw [renderBg_frame]
@[simp] theorem renderBg_nmiOut : (renderBg c n p).nmiOut = p.nmiOut := by rw [renderBg_frame]
@[simp] theorem renderSprites_vram : (renderSprites c p).vram = p.vram := by rw [renderSprites_frame]
@[simp] theorem renderSprites_palette : (renderSprites c p).palette = p.palette := by rw [renderSprites_frame]
@[simp] theorem renderSprites_oam : (renderSprites c p).oam = p.oam := by rw [renderSprites_frame]
@[simp] theorem renderSprites_ctrl : (renderSprites c p).ctrl = p.ctrl := by rw [renderSprites_frame]
@[simp] theorem renderSprites_mask : (renderSprites c p).mask = p.mask := by rw [renderSprites_frame]
@[simp] theorem renderSprites_vblank : (renderSprites c p).vblank = p.vblank := by rw [renderSprites_frame]
@[simp] theorem renderSprites_oamAddr : (renderSprites c p).oamAddr = p.oamAddr := by rw [renderSprites_frame]
@[simp] theorem renderSprites_latch : (renderSprites c p).latch = p.latch := by rw [renderSprites_frame]
@[simp] theorem renderSprites_readBuffer : (renderSprites c p).readBuffer = p.readBuffer := by rw [renderSprites_frame]
@[simp] theorem renderSprites_databus : (renderSprites c p).databus = p.databus := by rw [renderSprites_frame]
@[simp] theorem renderSprites_scanline : (renderSprites c p).scanline = p.scanline := by rw [renderSprites_frame]
@[simp] theorem renderSprites_cycle : (renderSprites c p).cycle = p.cycle := by rw [renderSprites_frame]
@[simp] theorem renderSprites_nmiOut : (renderSprites c p).nmiOut = p.nmiOut := by rw [renderSprites_frame]
end render

theorem renderBg_fb (c : Cart) (n : Nat) (p : Ppu) :
    (renderBg c n p).fb = p.fb.writeRange (n * 256) ((List.range 256).map (bgPixel c p n)) := by
  rw [renderBg]

theorem renderSprites_fb (c : Cart) (p : Ppu) :
    (renderSprites c p).fb = (List.range 64).reverse.foldl (drawSprite c p) p.fb := by
  rw [renderSprites]

/-- A framebuffer is canonical and within its size. -/
def FbOk (m : Memory) : Prop := m.wf = true ∧ m.below 61440 = true

theorem renderBg_fb_ok (c : Cart) {n : Nat} (hn : n < 240) {p : Ppu} (h : FbOk p.fb) : FbOk (renderBg c n p).fb := by
  have hl : n * 256 + ((List.range 256).map (bgPixel c p n)).length ≤ 61440 := by
    rw [List.length_map, List.length_range]; omega
  rw [renderBg_fb]
  exact ⟨Memory.writeRange_wf h.1 _ _, Memory.writeRange_below h.2 hl⟩

theorem ite_ok {P : Prop} [Decidable P] {α : Type} {Ok : α → Prop} {a b : α} (ha : P → Ok a) (hb : Ok b) :
    Ok (if P then a else b) := by
  split
  · exact ha ‹_›
  · exact hb

theorem drawSpritePixel_ok (c : Cart) (p : Ppu) (i row col : Nat) {m : Memory} (h : FbOk m) :
    FbOk (drawSpritePixel c p i row col m) := by
  unfold drawSpritePixel
  exact ite_ok (fun hc => ⟨Memory.write_wf h.1 _ _, Memory.write_below h.2 (by omega) _⟩) h

theorem foldl_ok {α β : Type} {Ok : β → Prop} (f : β → α → β) (hf : ∀ b a, Ok b → Ok (f b a)) (l : List α) {b : β}
    (h : Ok b) : Ok (l.foldl f b) := by
  induction l generalizing b with
  | nil => exact h
  | cons a l ih => exact ih (hf b a h)

theorem drawSprite_ok (c : Cart) (p : Ppu) (m : Memory) (i : Nat) (h : FbOk m) : FbOk (drawSprite c p m i) := by
  unfold drawSprite
  exact foldl_ok _ (fun _ _ h => drawSpritePixel_ok c p i _ _ h) _ h

theorem renderSprites_fb_ok (c : Cart) {p : Ppu} (h : FbOk p.fb) : FbOk (renderSprites c p).fb := by
  rw [renderSprites_fb]
  exact foldl_ok _ (fun _ _ h => drawSprite_ok c p _ _ h) _ h

/-! ### The scanline counter -/

/-- The end of a scanline: nothing but the framebuffer, the counters, vblank and the NMI output changes. -/
theorem endScanline_frame (c : Cart) (p : Ppu) : endScanline c p = { p with
    fb := (endScanline c p).fb, scanline := (endScanline c p).scanline, vblank := (endScanline c p).vblank
    nmiOut := (endScanline c p).nmiOut } := by
  unfold endScanline
  simp only
  repeat' split
  all_goals rfl

theorem ppuCycle_frame (c : Cart) (p : Ppu) : ppuCycle c p = { p with
    fb := (ppuCycle c p).fb, scanline := (ppuCycle c p).scanline, vblank := (ppuCycle c p).vblank
    nmiOut := (ppuCycle c p).nmiOut, cycle := (ppuCycle c p).cycle } := by
  unfold ppuCycle
  simp only
  split
  · rw [endScanline_frame]
  · rfl

/-- The PPU ticking changes nothing but the framebuffer, the counters, vblank and the NMI output. -/
theorem ppuTick_frame (c : Cart) (n : Nat) (p : Ppu) : ppuTick c n p = { p with
    fb := (ppuTick c n p).fb, scanline := (ppuTick c n p).scanline, vblank := (ppuTick c n p).vblank
    nmiOut := (ppuTick c n p).nmiOut, cycle := (ppuTick c n p).cycle } := by
  induction n generalizing p with
  | zero => rfl
  | succ n ih =>
    unfold ppuTick
    rw [ih, ppuCycle_frame]

theorem ppuTick_add (c : Cart) (m n : Nat) (p : Ppu) : ppuTick c (m + n) p = ppuTick c n (ppuTick c m p) := by
  induction m generalizing p with
  | zero => rw [Nat.zero_add]; rfl
  | succ m ih => rw [Nat.add_right_comm]; exact ih _

/-- The scanline the end of a scanline goes to. -/
theorem endScanline_scanline (c : Cart) {p : Ppu} (h : p.scanline.toNat < 262) :
    (endScanline c p).scanline.toNat = if p.scanline.toNat = 261 then 0 else p.scanline.toNat + 1 := by
  have e : (p.scanline + 1 : BitVec 16).toNat = p.scanline.toNat + 1 := by
    rw [BitVec.toNat_add, show (1 : BitVec 16).toNat = 1 from rfl, Nat.mod_eq_of_lt (by omega)]
  have hs : (endScanline c p).scanline = if (p.scanline + 1 : BitVec 16) = 262 then 0 else p.scanline + 1 := by
    unfold endScanline
    have hq : (if p.scanline.toNat < 240 then renderBg c p.scanline.toNat p else p).scanline = p.scanline := by
      split <;> simp
    generalize (if p.scanline.toNat < 240 then renderBg c p.scanline.toNat p else p) = q at hq ⊢
    rw [← hq]
    simp only
    repeat' split
    all_goals simp_all
  rw [hs]
  by_cases h1 : p.scanline.toNat = 261
  · rw [if_pos h1, if_pos (BitVec.eq_of_toNat_eq (by rw [e, h1]; rfl))]; rfl
  · rw [if_neg h1, if_neg, e]
    intro h2
    have := congrArg BitVec.toNat h2
    rw [e] at this
    simp at this
    omega

theorem ppuCycle_counters (c : Cart) {p : Ppu} (h : p.countersOk = true) :
    (ppuCycle c p).countersOk = true ∧ (ppuCycle c p).position = (p.position + 1) % 89342 := by
  simp only [Ppu.countersOk, Bool.and_eq_true, decide_eq_true_eq] at h
  have e : (p.cycle + 1 : BitVec 9).toNat = p.cycle.toNat + 1 := by
    rw [BitVec.toNat_add, show (1 : BitVec 9).toNat = 1 from rfl, Nat.mod_eq_of_lt (by omega)]
  simp only [Ppu.countersOk, Ppu.position, Bool.and_eq_true, decide_eq_true_eq]
  by_cases hc : (p.cycle + 1 : BitVec 9) = 341
  · have hn : p.cycle.toNat = 340 := by
      have := congrArg BitVec.toNat hc
      rw [e] at this
      simp at this
      omega
    have hq : ppuCycle c p = endScanline c { p with cycle := 0 } := by simp only [ppuCycle, if_pos hc]
    have hl := endScanline_scanline c (p := { p with cycle := 0 }) h.1
    have hz : (endScanline c { p with cycle := 0 }).cycle.toNat = 0 := by rw [endScanline_frame]; rfl
    rw [hq, hl, hz]
    simp only
    split <;> omega
  · have hn : p.cycle.toNat ≠ 340 := by
      intro hn
      exact hc (BitVec.eq_of_toNat_eq (by rw [e, hn]; rfl))
    have hq : ppuCycle c p = { p with cycle := p.cycle + 1 } := by simp only [ppuCycle, if_neg hc]
    rw [hq]
    simp only [e]
    omega

/-- `n` PPU cycles move the place in the frame by `n`, round its 89342 cycles. -/
theorem ppuTick_counters (c : Cart) (n : Nat) {p : Ppu} (h : p.countersOk = true) :
    (ppuTick c n p).countersOk = true ∧ (ppuTick c n p).position = (p.position + n) % 89342 := by
  induction n generalizing p with
  | zero =>
    refine ⟨h, ?_⟩
    simp only [Ppu.countersOk, Bool.and_eq_true, decide_eq_true_eq] at h
    simp only [ppuTick, Ppu.position]
    omega
  | succ n ih =>
    have h1 := ppuCycle_counters c h
    have h2 := ih h1.1
    exact ⟨h2.1, by rw [ppuTick, h2.2, h1.2]; omega⟩

/-- A tick wraps the scanline counter exactly when it reaches the end of the frame. -/
theorem frameWraps_ne_zero (n : Nat) (p : Ppu) : p.frameWraps n ≠ 0 ↔ 89342 ≤ p.position + n := by
  simp only [Ppu.frameWraps, cyclesPerFrame, ne_eq, Nat.div_eq_zero_iff]
  omega

theorem endScanline_fb_ok (c : Cart) {p : Ppu} (h : FbOk p.fb) : FbOk (endScanline c p).fb := by
  unfold endScanline
  simp only
  generalize hq : (if p.scanline.toNat < 240 then renderBg c p.scanline.toNat p else p) = q
  have hb : FbOk q.fb := by
    rw [← hq]
    exact ite_ok (Ok := fun q : Ppu => FbOk q.fb) (fun hn => renderBg_fb_ok c hn h) h
  have hr := renderSprites_fb_ok c (p := { q with scanline := q.scanline + 1 }) hb
  generalize renderSprites c { q with scanline := q.scanline + 1 } = r at hr ⊢
  repeat' split
  all_goals first | exact hb | exact hr

/-- The PPU ticking keeps the canonical memories. -/
theorem ppuTick_memoriesOk (c : Cart) (n : Nat) {p : Ppu} (h : p.memoriesOk = true) :
    (ppuTick c n p).memoriesOk = true := by
  induction n generalizing p with
  | zero => exact h
  | succ n ih =>
    refine ih ?_
    rw [Ppu.memoriesOk_iff] at h ⊢
    rw [ppuCycle_frame]
    refine ⟨h.1, h.2.1, h.2.2.1, ?_⟩
    simp only [ppuCycle]
    split
    · exact endScanline_fb_ok c h.2.2.2
    · exact h.2.2.2

end Sys2Proof.Machine
end

