-- ==== Sys2Proof/Laws/State.lean ====
section
/-! SUPPORT. What each setter of Machine/Registers.lean does to each field: one lemma per field per setter. -/

namespace Sys2Proof.Machine

section setA
variable (v : Byte) (s : State)
@[simp] theorem State.setA_a : (s.setA v).a = v := rfl
@[simp] theorem State.setA_x : (s.setA v).x = s.x := rfl
@[simp] theorem State.setA_y : (s.setA v).y = s.y := rfl
@[simp] theorem State.setA_sp : (s.setA v).sp = s.sp := rfl
@[simp] theorem State.setA_pc : (s.setA v).pc = s.pc := rfl
@[simp] theorem State.setA_p : (s.setA v).p = s.p := rfl
@[simp] theorem State.setA_nmiPending : (s.setA v).nmiPending = s.nmiPending := rfl
@[simp] theorem State.setA_irqPending : (s.setA v).irqPending = s.irqPending := rfl
@[simp] theorem State.setA_halted : (s.setA v).halted = s.halted := rfl
@[simp] theorem State.setA_refused : (s.setA v).refused = s.refused := rfl
@[simp] theorem State.setA_faulted : (s.setA v).faulted = s.faulted := rfl
@[simp] theorem State.setA_cycles : (s.setA v).cycles = s.cycles := rfl
@[simp] theorem State.setA_wram : (s.setA v).wram = s.wram := rfl
@[simp] theorem State.setA_apu : (s.setA v).apu = s.apu := rfl
@[simp] theorem State.setA_ram : (s.setA v).ram = s.ram := rfl
@[simp] theorem State.setA_ppu : (s.setA v).ppu = s.ppu := rfl
@[simp] theorem State.setA_pad : (s.setA v).pad = s.pad := rfl
@[simp] theorem State.setA_buttons : (s.setA v).buttons = s.buttons := rfl
@[simp] theorem State.setA_draws : (s.setA v).draws = s.draws := rfl
@[simp] theorem State.setA_params : (s.setA v).params = s.params := rfl
@[simp] theorem State.setA_cart : (s.setA v).cart = s.cart := rfl
end setA

section setX
variable (v : Byte) (s : State)
@[simp] theorem State.setX_a : (s.setX v).a = s.a := rfl
@[simp] theorem State.setX_x : (s.setX v).x = v := rfl
@[simp] theorem State.setX_y : (s.setX v).y = s.y := rfl
@[simp] theorem State.setX_sp : (s.setX v).sp = s.sp := rfl
@[simp] theorem State.setX_pc : (s.setX v).pc = s.pc := rfl
@[simp] theorem State.setX_p : (s.setX v).p = s.p := rfl
@[simp] theorem State.setX_nmiPending : (s.setX v).nmiPending = s.nmiPending := rfl
@[simp] theorem State.setX_irqPending : (s.setX v).irqPending = s.irqPending := rfl
@[simp] theorem State.setX_halted : (s.setX v).halted = s.halted := rfl
@[simp] theorem State.setX_refused : (s.setX v).refused = s.refused := rfl
@[simp] theorem State.setX_faulted : (s.setX v).faulted = s.faulted := rfl
@[simp] theorem State.setX_cycles : (s.setX v).cycles = s.cycles := rfl
@[simp] theorem State.setX_wram : (s.setX v).wram = s.wram := rfl
@[simp] theorem State.setX_apu : (s.setX v).apu = s.apu := rfl
@[simp] theorem State.setX_ram : (s.setX v).ram = s.ram := rfl
@[simp] theorem State.setX_ppu : (s.setX v).ppu = s.ppu := rfl
@[simp] theorem State.setX_pad : (s.setX v).pad = s.pad := rfl
@[simp] theorem State.setX_buttons : (s.setX v).buttons = s.buttons := rfl
@[simp] theorem State.setX_draws : (s.setX v).draws = s.draws := rfl
@[simp] theorem State.setX_params : (s.setX v).params = s.params := rfl
@[simp] theorem State.setX_cart : (s.setX v).cart = s.cart := rfl
end setX

section setY
variable (v : Byte) (s : State)
@[simp] theorem State.setY_a : (s.setY v).a = s.a := rfl
@[simp] theorem State.setY_x : (s.setY v).x = s.x := rfl
@[simp] theorem State.setY_y : (s.setY v).y = v := rfl
@[simp] theorem State.setY_sp : (s.setY v).sp = s.sp := rfl
@[simp] theorem State.setY_pc : (s.setY v).pc = s.pc := rfl
@[simp] theorem State.setY_p : (s.setY v).p = s.p := rfl
@[simp] theorem State.setY_nmiPending : (s.setY v).nmiPending = s.nmiPending := rfl
@[simp] theorem State.setY_irqPending : (s.setY v).irqPending = s.irqPending := rfl
@[simp] theorem State.setY_halted : (s.setY v).halted = s.halted := rfl
@[simp] theorem State.setY_refused : (s.setY v).refused = s.refused := rfl
@[simp] theorem State.setY_faulted : (s.setY v).faulted = s.faulted := rfl
@[simp] theorem State.setY_cycles : (s.setY v).cycles = s.cycles := rfl
@[simp] theorem State.setY_wram : (s.setY v).wram = s.wram := rfl
@[simp] theorem State.setY_apu : (s.setY v).apu = s.apu := rfl
@[simp] theorem State.setY_ram : (s.setY v).ram = s.ram := rfl
@[simp] theorem State.setY_ppu : (s.setY v).ppu = s.ppu := rfl
@[simp] theorem State.setY_pad : (s.setY v).pad = s.pad := rfl
@[simp] theorem State.setY_buttons : (s.setY v).buttons = s.buttons := rfl
@[simp] theorem State.setY_draws : (s.setY v).draws = s.draws := rfl
@[simp] theorem State.setY_params : (s.setY v).params = s.params := rfl
@[simp] theorem State.setY_cart : (s.setY v).cart = s.cart := rfl
end setY

section setSp
variable (v : Byte) (s : State)
@[simp] theorem State.setSp_a : (s.setSp v).a = s.a := rfl
@[simp] theorem State.setSp_x : (s.setSp v).x = s.x := rfl
@[simp] theorem State.setSp_y : (s.setSp v).y = s.y := rfl
@[simp] theorem State.setSp_sp : (s.setSp v).sp = v := rfl
@[simp] theorem State.setSp_pc : (s.setSp v).pc = s.pc := rfl
@[simp] theorem State.setSp_p : (s.setSp v).p = s.p := rfl
@[simp] theorem State.setSp_nmiPending : (s.setSp v).nmiPending = s.nmiPending := rfl
@[simp] theorem State.setSp_irqPending : (s.setSp v).irqPending = s.irqPending := rfl
@[simp] theorem State.setSp_halted : (s.setSp v).halted = s.halted := rfl
@[simp] theorem State.setSp_refused : (s.setSp v).refused = s.refused := rfl
@[simp] theorem State.setSp_faulted : (s.setSp v).faulted = s.faulted := rfl
@[simp] theorem State.setSp_cycles : (s.setSp v).cycles = s.cycles := rfl
@[simp] theorem State.setSp_wram : (s.setSp v).wram = s.wram := rfl
@[simp] theorem State.setSp_apu : (s.setSp v).apu = s.apu := rfl
@[simp] theorem State.setSp_ram : (s.setSp v).ram = s.ram := rfl
@[simp] theorem State.setSp_ppu : (s.setSp v).ppu = s.ppu := rfl
@[simp] theorem State.setSp_pad : (s.setSp v).pad = s.pad := rfl
@[simp] theorem State.setSp_buttons : (s.setSp v).buttons = s.buttons := rfl
@[simp] theorem State.setSp_draws : (s.setSp v).draws = s.draws := rfl
@[simp] theorem State.setSp_params : (s.setSp v).params = s.params := rfl
@[simp] theorem State.setSp_cart : (s.setSp v).cart = s.cart := rfl
end setSp

section setPc
variable (v : Word) (s : State)
@[simp] theorem State.setPc_a : (s.setPc v).a = s.a := rfl
@[simp] theorem State.setPc_x : (s.setPc v).x = s.x := rfl
@[simp] theorem State.setPc_y : (s.setPc v).y = s.y := rfl
@[simp] theorem State.setPc_sp : (s.setPc v).sp = s.sp := rfl
@[simp] theorem State.setPc_pc : (s.setPc v).pc = v := rfl
@[simp] theorem State.setPc_p : (s.setPc v).p = s.p := rfl
@[simp] theorem State.setPc_nmiPending : (s.setPc v).nmiPending = s.nmiPending := rfl
@[simp] theorem State.setPc_irqPending : (s.setPc v).irqPending = s.irqPending := rfl
@[simp] theorem State.setPc_halted : (s.setPc v).halted = s.halted := rfl
@[simp] theorem State.setPc_refused : (s.setPc v).refused = s.refused := rfl
@[simp] theorem State.setPc_faulted : (s.setPc v).faulted = s.faulted := rfl
@[simp] theorem State.setPc_cycles : (s.setPc v).cycles = s.cycles := rfl
@[simp] theorem State.setPc_wram : (s.setPc v).wram = s.wram := rfl
@[simp] theorem State.setPc_apu : (s.setPc v).apu = s.apu := rfl
@[simp] theorem State.setPc_ram : (s.setPc v).ram = s.ram := rfl
@[simp] theorem State.setPc_ppu : (s.setPc v).ppu = s.ppu := rfl
@[simp] theorem State.setPc_pad : (s.setPc v).pad = s.pad := rfl
@[simp] theorem State.setPc_buttons : (s.setPc v).buttons = s.buttons := rfl
@[simp] theorem State.setPc_draws : (s.setPc v).draws = s.draws := rfl
@[simp] theorem State.setPc_params : (s.setPc v).params = s.params := rfl
@[simp] theorem State.setPc_cart : (s.setPc v).cart = s.cart := rfl
end setPc

section setFlags
variable (q : Flags) (s : State)
@[simp] theorem State.setFlags_a : (s.setFlags q).a = s.a := rfl
@[simp] theorem State.setFlags_x : (s.setFlags q).x = s.x := rfl
@[simp] theorem State.setFlags_y : (s.setFlags q).y = s.y := rfl
@[simp] theorem State.setFlags_sp : (s.setFlags q).sp = s.sp := rfl
@[simp] theorem State.setFlags_pc : (s.setFlags q).pc = s.pc := rfl
@[simp] theorem State.setFlags_p : (s.setFlags q).p = q := rfl
@[simp] theorem State.setFlags_nmiPending : (s.setFlags q).nmiPending = s.nmiPending := rfl
@[simp] theorem State.setFlags_irqPending : (s.setFlags q).irqPending = s.irqPending := rfl
@[simp] theorem State.setFlags_halted : (s.setFlags q).halted = s.halted := rfl
@[simp] theorem State.setFlags_refused : (s.setFlags q).refused = s.refused := rfl
@[simp] theorem State.setFlags_faulted : (s.setFlags q).faulted = s.faulted := rfl
@[simp] theorem State.setFlags_cycles : (s.setFlags q).cycles = s.cycles := rfl
@[simp] theorem State.setFlags_wram : (s.setFlags q).wram = s.wram := rfl
@[simp] theorem State.setFlags_apu : (s.setFlags q).apu = s.apu := rfl
@[simp] theorem State.setFlags_ram : (s.setFlags q).ram = s.ram := rfl
@[simp] theorem State.setFlags_ppu : (s.setFlags q).ppu = s.ppu := rfl
@[simp] theorem State.setFlags_pad : (s.setFlags q).pad = s.pad := rfl
@[simp] theorem State.setFlags_buttons : (s.setFlags q).buttons = s.buttons := rfl
@[simp] theorem State.setFlags_draws : (s.setFlags q).draws = s.draws := rfl
@[simp] theorem State.setFlags_params : (s.setFlags q).params = s.params := rfl
@[simp] theorem State.setFlags_cart : (s.setFlags q).cart = s.cart := rfl
end setFlags

section setNmiPending
variable (b : Bool) (s : State)
@[simp] theorem State.setNmiPending_a : (s.setNmiPending b).a = s.a := rfl
@[simp] theorem State.setNmiPending_x : (s.setNmiPending b).x = s.x := rfl
@[simp] theorem State.setNmiPending_y : (s.setNmiPending b).y = s.y := rfl
@[simp] theorem State.setNmiPending_sp : (s.setNmiPending b).sp = s.sp := rfl
@[simp] theorem State.setNmiPending_pc : (s.setNmiPending b).pc = s.pc := rfl
@[simp] theorem State.setNmiPending_p : (s.setNmiPending b).p = s.p := rfl
@[simp] theorem State.setNmiPending_nmiPending : (s.setNmiPending b).nmiPending = b := rfl
@[simp] theorem State.setNmiPending_irqPending : (s.setNmiPending b).irqPending = s.irqPending := rfl
@[simp] theorem State.setNmiPending_halted : (s.setNmiPending b).halted = s.halted := rfl
@[simp] theorem State.setNmiPending_refused : (s.setNmiPending b).refused = s.refused := rfl
@[simp] theorem State.setNmiPending_faulted : (s.setNmiPending b).faulted = s.faulted := rfl
@[simp] theorem State.setNmiPending_cycles : (s.setNmiPending b).cycles = s.cycles := rfl
@[simp] theorem State.setNmiPending_wram : (s.setNmiPending b).wram = s.wram := rfl
@[simp] theorem State.setNmiPending_apu : (s.setNmiPending b).apu = s.apu := rfl
@[simp] theorem State.setNmiPending_ram : (s.setNmiPending b).ram = s.ram := rfl
@[simp] theorem State.setNmiPending_ppu : (s.setNmiPending b).ppu = s.ppu := rfl
@[simp] theorem State.setNmiPending_pad : (s.setNmiPending b).pad = s.pad := rfl
@[simp] theorem State.setNmiPending_buttons : (s.setNmiPending b).buttons = s.buttons := rfl
@[simp] theorem State.setNmiPending_draws : (s.setNmiPending b).draws = s.draws := rfl
@[simp] theorem State.setNmiPending_params : (s.setNmiPending b).params = s.params := rfl
@[simp] theorem State.setNmiPending_cart : (s.setNmiPending b).cart = s.cart := rfl
end setNmiPending

section setIrqPending
variable (b : Bool) (s : State)
@[simp] theorem State.setIrqPending_a : (s.setIrqPending b).a = s.a := rfl
@[simp] theorem State.setIrqPending_x : (s.setIrqPending b).x = s.x := rfl
@[simp] theorem State.setIrqPending_y : (s.setIrqPending b).y = s.y := rfl
@[simp] theorem State.setIrqPending_sp : (s.setIrqPending b).sp = s.sp := rfl
@[simp] theorem State.setIrqPending_pc : (s.setIrqPending b).pc = s.pc := rfl
@[simp] theorem State.setIrqPending_p : (s.setIrqPending b).p = s.p := rfl
@[simp] theorem State.setIrqPending_nmiPending : (s.setIrqPending b).nmiPending = s.nmiPending := rfl
@[simp] theorem State.setIrqPending_irqPending : (s.setIrqPending b).irqPending = b := rfl
@[simp] theorem State.setIrqPending_halted : (s.setIrqPending b).halted = s.halted := rfl
@[simp] theorem State.setIrqPending_refused : (s.setIrqPending b).refused = s.refused := rfl
@[simp] theorem State.setIrqPending_faulted : (s.setIrqPending b).faulted = s.faulted := rfl
@[simp] theorem State.setIrqPending_cycles : (s.setIrqPending b).cycles = s.cycles := rfl
@[simp] theorem State.setIrqPending_wram : (s.setIrqPending b).wram = s.wram := rfl
@[simp] theorem State.setIrqPending_apu : (s.setIrqPending b).apu = s.apu := rfl
@[simp] theorem State.setIrqPending_ram : (s.setIrqPending b).ram = s.ram := rfl
@[simp] theorem State.setIrqPending_ppu : (s.setIrqPending b).ppu = s.ppu := rfl
@[simp] theorem State.setIrqPending_pad : (s.setIrqPending b).pad = s.pad := rfl
@[simp] theorem State.setIrqPending_buttons : (s.setIrqPending b).buttons = s.buttons := rfl
@[simp] theorem State.setIrqPending_draws : (s.setIrqPending b).draws = s.draws := rfl
@[simp] theorem State.setIrqPending_params : (s.setIrqPending b).params = s.params := rfl
@[simp] theorem State.setIrqPending_cart : (s.setIrqPending b).cart = s.cart := rfl
end setIrqPending

section setHalted
variable (b : Bool) (s : State)
@[simp] theorem State.setHalted_a : (s.setHalted b).a = s.a := rfl
@[simp] theorem State.setHalted_x : (s.setHalted b).x = s.x := rfl
@[simp] theorem State.setHalted_y : (s.setHalted b).y = s.y := rfl
@[simp] theorem State.setHalted_sp : (s.setHalted b).sp = s.sp := rfl
@[simp] theorem State.setHalted_pc : (s.setHalted b).pc = s.pc := rfl
@[simp] theorem State.setHalted_p : (s.setHalted b).p = s.p := rfl
@[simp] theorem State.setHalted_nmiPending : (s.setHalted b).nmiPending = s.nmiPending := rfl
@[simp] theorem State.setHalted_irqPending : (s.setHalted b).irqPending = s.irqPending := rfl
@[simp] theorem State.setHalted_halted : (s.setHalted b).halted = b := rfl
@[simp] theorem State.setHalted_refused : (s.setHalted b).refused = s.refused := rfl
@[simp] theorem State.setHalted_faulted : (s.setHalted b).faulted = s.faulted := rfl
@[simp] theorem State.setHalted_cycles : (s.setHalted b).cycles = s.cycles := rfl
@[simp] theorem State.setHalted_wram : (s.setHalted b).wram = s.wram := rfl
@[simp] theorem State.setHalted_apu : (s.setHalted b).apu = s.apu := rfl
@[simp] theorem State.setHalted_ram : (s.setHalted b).ram = s.ram := rfl
@[simp] theorem State.setHalted_ppu : (s.setHalted b).ppu = s.ppu := rfl
@[simp] theorem State.setHalted_pad : (s.setHalted b).pad = s.pad := rfl
@[simp] theorem State.setHalted_buttons : (s.setHalted b).buttons = s.buttons := rfl
@[simp] theorem State.setHalted_draws : (s.setHalted b).draws = s.draws := rfl
@[simp] theorem State.setHalted_params : (s.setHalted b).params = s.params := rfl
@[simp] theorem State.setHalted_cart : (s.setHalted b).cart = s.cart := rfl
end setHalted

section setRefused
variable (m : Option Byte) (s : State)
@[simp] theorem State.setRefused_a : (s.setRefused m).a = s.a := rfl
@[simp] theorem State.setRefused_x : (s.setRefused m).x = s.x := rfl
@[simp] theorem State.setRefused_y : (s.setRefused m).y = s.y := rfl
@[simp] theorem State.setRefused_sp : (s.setRefused m).sp = s.sp := rfl
@[simp] theorem State.setRefused_pc : (s.setRefused m).pc = s.pc := rfl
@[simp] theorem State.setRefused_p : (s.setRefused m).p = s.p := rfl
@[simp] theorem State.setRefused_nmiPending : (s.setRefused m).nmiPending = s.nmiPending := rfl
@[simp] theorem State.setRefused_irqPending : (s.setRefused m).irqPending = s.irqPending := rfl
@[simp] theorem State.setRefused_halted : (s.setRefused m).halted = s.halted := rfl
@[simp] theorem State.setRefused_refused : (s.setRefused m).refused = m := rfl
@[simp] theorem State.setRefused_faulted : (s.setRefused m).faulted = s.faulted := rfl
@[simp] theorem State.setRefused_cycles : (s.setRefused m).cycles = s.cycles := rfl
@[simp] theorem State.setRefused_wram : (s.setRefused m).wram = s.wram := rfl
@[simp] theorem State.setRefused_apu : (s.setRefused m).apu = s.apu := rfl
@[simp] theorem State.setRefused_ram : (s.setRefused m).ram = s.ram := rfl
@[simp] theorem State.setRefused_ppu : (s.setRefused m).ppu = s.ppu := rfl
@[simp] theorem State.setRefused_pad : (s.setRefused m).pad = s.pad := rfl
@[simp] theorem State.setRefused_buttons : (s.setRefused m).buttons = s.buttons := rfl
@[simp] theorem State.setRefused_draws : (s.setRefused m).draws = s.draws := rfl
@[simp] theorem State.setRefused_params : (s.setRefused m).params = s.params := rfl
@[simp] theorem State.setRefused_cart : (s.setRefused m).cart = s.cart := rfl
end setRefused

section setFaulted
variable (m : Option Word) (s : State)
@[simp] theorem State.setFaulted_a : (s.setFaulted m).a = s.a := rfl
@[simp] theorem State.setFaulted_x : (s.setFaulted m).x = s.x := rfl
@[simp] theorem State.setFaulted_y : (s.setFaulted m).y = s.y := rfl
@[simp] theorem State.setFaulted_sp : (s.setFaulted m).sp = s.sp := rfl
@[simp] theorem State.setFaulted_pc : (s.setFaulted m).pc = s.pc := rfl
@[simp] theorem State.setFaulted_p : (s.setFaulted m).p = s.p := rfl
@[simp] theorem State.setFaulted_nmiPending : (s.setFaulted m).nmiPending = s.nmiPending := rfl
@[simp] theorem State.setFaulted_irqPending : (s.setFaulted m).irqPending = s.irqPending := rfl
@[simp] theorem State.setFaulted_halted : (s.setFaulted m).halted = s.halted := rfl
@[simp] theorem State.setFaulted_refused : (s.setFaulted m).refused = s.refused := rfl
@[simp] theorem State.setFaulted_faulted : (s.setFaulted m).faulted = m := rfl
@[simp] theorem State.setFaulted_cycles : (s.setFaulted m).cycles = s.cycles := rfl
@[simp] theorem State.setFaulted_wram : (s.setFaulted m).wram = s.wram := rfl
@[simp] theorem State.setFaulted_apu : (s.setFaulted m).apu = s.apu := rfl
@[simp] theorem State.setFaulted_ram : (s.setFaulted m).ram = s.ram := rfl
@[simp] theorem State.setFaulted_ppu : (s.setFaulted m).ppu = s.ppu := rfl
@[simp] theorem State.setFaulted_pad : (s.setFaulted m).pad = s.pad := rfl
@[simp] theorem State.setFaulted_buttons : (s.setFaulted m).buttons = s.buttons := rfl
@[simp] theorem State.setFaulted_draws : (s.setFaulted m).draws = s.draws := rfl
@[simp] theorem State.setFaulted_params : (s.setFaulted m).params = s.params := rfl
@[simp] theorem State.setFaulted_cart : (s.setFaulted m).cart = s.cart := rfl
end setFaulted

section addCycles
variable (n : Nat) (s : State)
@[simp] theorem State.addCycles_a : (s.addCycles n).a = s.a := rfl
@[simp] theorem State.addCycles_x : (s.addCycles n).x = s.x := rfl
@[simp] theorem State.addCycles_y : (s.addCycles n).y = s.y := rfl
@[simp] theorem State.addCycles_sp : (s.addCycles n).sp = s.sp := rfl
@[simp] theorem State.addCycles_pc : (s.addCycles n).pc = s.pc := rfl
@[simp] theorem State.addCycles_p : (s.addCycles n).p = s.p := rfl
@[simp] theorem State.addCycles_nmiPending : (s.addCycles n).nmiPending = s.nmiPending := rfl
@[simp] theorem State.addCycles_irqPending : (s.addCycles n).irqPending = s.irqPending := rfl
@[simp] theorem State.addCycles_halted : (s.addCycles n).halted = s.halted := rfl
@[simp] theorem State.addCycles_refused : (s.addCycles n).refused = s.refused := rfl
@[simp] theorem State.addCycles_faulted : (s.addCycles n).faulted = s.faulted := rfl
@[simp] theorem State.addCycles_cycles : (s.addCycles n).cycles = s.cycles + n := rfl
@[simp] theorem State.addCycles_wram : (s.addCycles n).wram = s.wram := rfl
@[simp] theorem State.addCycles_apu : (s.addCycles n).apu = s.apu := rfl
@[simp] theorem State.addCycles_ram : (s.addCycles n).ram = s.ram := rfl
@[simp] theorem State.addCycles_ppu : (s.addCycles n).ppu = s.ppu := rfl
@[simp] theorem State.addCycles_pad : (s.addCycles n).pad = s.pad := rfl
@[simp] theorem State.addCycles_buttons : (s.addCycles n).buttons = s.buttons := rfl
@[simp] theorem State.addCycles_draws : (s.addCycles n).draws = s.draws := rfl
@[simp] theorem State.addCycles_params : (s.addCycles n).params = s.params := rfl
@[simp] theorem State.addCycles_cart : (s.addCycles n).cart = s.cart := rfl
end addCycles

section setWram
variable (m : Memory) (s : State)
@[simp] theorem State.setWram_a : (s.setWram m).a = s.a := rfl
@[simp] theorem State.setWram_x : (s.setWram m).x = s.x := rfl
@[simp] theorem State.setWram_y : (s.setWram m).y = s.y := rfl
@[simp] theorem State.setWram_sp : (s.setWram m).sp = s.sp := rfl
@[simp] theorem State.setWram_pc : (s.setWram m).pc = s.pc := rfl
@[simp] theorem State.setWram_p : (s.setWram m).p = s.p := rfl
@[simp] theorem State.setWram_nmiPending : (s.setWram m).nmiPending = s.nmiPending := rfl
@[simp] theorem State.setWram_irqPending : (s.setWram m).irqPending = s.irqPending := rfl
@[simp] theorem State.setWram_halted : (s.setWram m).halted = s.halted := rfl
@[simp] theorem State.setWram_refused : (s.setWram m).refused = s.refused := rfl
@[simp] theorem State.setWram_faulted : (s.setWram m).faulted = s.faulted := rfl
@[simp] theorem State.setWram_cycles : (s.setWram m).cycles = s.cycles := rfl
@[simp] theorem State.setWram_wram : (s.setWram m).wram = m := rfl
@[simp] theorem State.setWram_apu : (s.setWram m).apu = s.apu := rfl
@[simp] theorem State.setWram_ram : (s.setWram m).ram = s.ram := rfl
@[simp] theorem State.setWram_ppu : (s.setWram m).ppu = s.ppu := rfl
@[simp] theorem State.setWram_pad : (s.setWram m).pad = s.pad := rfl
@[simp] theorem State.setWram_buttons : (s.setWram m).buttons = s.buttons := rfl
@[simp] theorem State.setWram_draws : (s.setWram m).draws = s.draws := rfl
@[simp] theorem State.setWram_params : (s.setWram m).params = s.params := rfl
@[simp] theorem State.setWram_cart : (s.setWram m).cart = s.cart := rfl
end setWram

section setApu
variable (m : Memory) (s : State)
@[simp] theorem State.setApu_a : (s.setApu m).a = s.a := rfl
@[simp] theorem State.setApu_x : (s.setApu m).x = s.x := rfl
@[simp] theorem State.setApu_y : (s.setApu m).y = s.y := rfl
@[simp] theorem State.setApu_sp : (s.setApu m).sp = s.sp := rfl
@[simp] theorem State.setApu_pc : (s.setApu m).pc = s.pc := rfl
@[simp] theorem State.setApu_p : (s.setApu m).p = s.p := rfl
@[simp] theorem State.setApu_nmiPending : (s.setApu m).nmiPending = s.nmiPending := rfl
@[simp] theorem State.setApu_irqPending : (s.setApu m).irqPending = s.irqPending := rfl
@[simp] theorem State.setApu_halted : (s.setApu m).halted = s.halted := rfl
@[simp] theorem State.setApu_refused : (s.setApu m).refused = s.refused := rfl
@[simp] theorem State.setApu_faulted : (s.setApu m).faulted = s.faulted := rfl
@[simp] theorem State.setApu_cycles : (s.setApu m).cycles = s.cycles := rfl
@[simp] theorem State.setApu_wram : (s.setApu m).wram = s.wram := rfl
@[simp] theorem State.setApu_apu : (s.setApu m).apu = m := rfl
@[simp] theorem State.setApu_ram : (s.setApu m).ram = s.ram := rfl
@[simp] theorem State.setApu_ppu : (s.setApu m).ppu = s.ppu := rfl
@[simp] theorem State.setApu_pad : (s.setApu m).pad = s.pad := rfl
@[simp] theorem State.setApu_buttons : (s.setApu m).buttons = s.buttons := rfl
@[simp] theorem State.setApu_draws : (s.setApu m).draws = s.draws := rfl
@[simp] theorem State.setApu_params : (s.setApu m).params = s.params := rfl
@[simp] theorem State.setApu_cart : (s.setApu m).cart = s.cart := rfl
end setApu

section setRam
variable (m : Memory) (s : State)
@[simp] theorem State.setRam_a : (s.setRam m).a = s.a := rfl
@[simp] theorem State.setRam_x : (s.setRam m).x = s.x := rfl
@[simp] theorem State.setRam_y : (s.setRam m).y = s.y := rfl
@[simp] theorem State.setRam_sp : (s.setRam m).sp = s.sp := rfl
@[simp] theorem State.setRam_pc : (s.setRam m).pc = s.pc := rfl
@[simp] theorem State.setRam_p : (s.setRam m).p = s.p := rfl
@[simp] theorem State.setRam_nmiPending : (s.setRam m).nmiPending = s.nmiPending := rfl
@[simp] theorem State.setRam_irqPending : (s.setRam m).irqPending = s.irqPending := rfl
@[simp] theorem State.setRam_halted : (s.setRam m).halted = s.halted := rfl
@[simp] theorem State.setRam_refused : (s.setRam m).refused = s.refused := rfl
@[simp] theorem State.setRam_faulted : (s.setRam m).faulted = s.faulted := rfl
@[simp] theorem State.setRam_cycles : (s.setRam m).cycles = s.cycles := rfl
@[simp] theorem State.setRam_wram : (s.setRam m).wram = s.wram := rfl
@[simp] theorem State.setRam_apu : (s.setRam m).apu = s.apu := rfl
@[simp] theorem State.setRam_ram : (s.setRam m).ram = m := rfl
@[simp] theorem State.setRam_ppu : (s.setRam m).ppu = s.ppu := rfl
@[simp] theorem State.setRam_pad : (s.setRam m).pad = s.pad := rfl
@[simp] theorem State.setRam_buttons : (s.setRam m).buttons = s.buttons := rfl
@[simp] theorem State.setRam_draws : (s.setRam m).draws = s.draws := rfl
@[simp] theorem State.setRam_params : (s.setRam m).params = s.params := rfl
@[simp] theorem State.setRam_cart : (s.setRam m).cart = s.cart := rfl
end setRam

section setPpu
variable (q : Ppu) (s : State)
@[simp] theorem State.setPpu_a : (s.setPpu q).a = s.a := rfl
@[simp] theorem State.setPpu_x : (s.setPpu q).x = s.x := rfl
@[simp] theorem State.setPpu_y : (s.setPpu q).y = s.y := rfl
@[simp] theorem State.setPpu_sp : (s.setPpu q).sp = s.sp := rfl
@[simp] theorem State.setPpu_pc : (s.setPpu q).pc = s.pc := rfl
@[simp] theorem State.setPpu_p : (s.setPpu q).p = s.p := rfl
@[simp] theorem State.setPpu_nmiPending : (s.setPpu q).nmiPending = s.nmiPending := rfl
@[simp] theorem State.setPpu_irqPending : (s.setPpu q).irqPending = s.irqPending := rfl
@[simp] theorem State.setPpu_halted : (s.setPpu q).halted = s.halted := rfl
@[simp] theorem State.setPpu_refused : (s.setPpu q).refused = s.refused := rfl
@[simp] theorem State.setPpu_faulted : (s.setPpu q).faulted = s.faulted := rfl
@[simp] theorem State.setPpu_cycles : (s.setPpu q).cycles = s.cycles := rfl
@[simp] theorem State.setPpu_wram : (s.setPpu q).wram = s.wram := rfl
@[simp] theorem State.setPpu_apu : (s.setPpu q).apu = s.apu := rfl
@[simp] theorem State.setPpu_ram : (s.setPpu q).ram = s.ram := rfl
@[simp] theorem State.setPpu_ppu : (s.setPpu q).ppu = q := rfl
@[simp] theorem State.setPpu_pad : (s.setPpu q).pad = s.pad := rfl
@[simp] theorem State.setPpu_buttons : (s.setPpu q).buttons = s.buttons := rfl
@[simp] theorem State.setPpu_draws : (s.setPpu q).draws = s.draws := rfl
@[simp] theorem State.setPpu_params : (s.setPpu q).params = s.params := rfl
@[simp] theorem State.setPpu_cart : (s.setPpu q).cart = s.cart := rfl
end setPpu

section setPad
variable (q : Pad) (s : State)
@[simp] theorem State.setPad_a : (s.setPad q).a = s.a := rfl
@[simp] theorem State.setPad_x : (s.setPad q).x = s.x := rfl
@[simp] theorem State.setPad_y : (s.setPad q).y = s.y := rfl
@[simp] theorem State.setPad_sp : (s.setPad q).sp = s.sp := rfl
@[simp] theorem State.setPad_pc : (s.setPad q).pc = s.pc := rfl
@[simp] theorem State.setPad_p : (s.setPad q).p = s.p := rfl
@[simp] theorem State.setPad_nmiPending : (s.setPad q).nmiPending = s.nmiPending := rfl
@[simp] theorem State.setPad_irqPending : (s.setPad q).irqPending = s.irqPending := rfl
@[simp] theorem State.setPad_halted : (s.setPad q).halted = s.halted := rfl
@[simp] theorem State.setPad_refused : (s.setPad q).refused = s.refused := rfl
@[simp] theorem State.setPad_faulted : (s.setPad q).faulted = s.faulted := rfl
@[simp] theorem State.setPad_cycles : (s.setPad q).cycles = s.cycles := rfl
@[simp] theorem State.setPad_wram : (s.setPad q).wram = s.wram := rfl
@[simp] theorem State.setPad_apu : (s.setPad q).apu = s.apu := rfl
@[simp] theorem State.setPad_ram : (s.setPad q).ram = s.ram := rfl
@[simp] theorem State.setPad_ppu : (s.setPad q).ppu = s.ppu := rfl
@[simp] theorem State.setPad_pad : (s.setPad q).pad = q := rfl
@[simp] theorem State.setPad_buttons : (s.setPad q).buttons = s.buttons := rfl
@[simp] theorem State.setPad_draws : (s.setPad q).draws = s.draws := rfl
@[simp] theorem State.setPad_params : (s.setPad q).params = s.params := rfl
@[simp] theorem State.setPad_cart : (s.setPad q).cart = s.cart := rfl
end setPad

section setButtons
variable (v : Byte) (s : State)
@[simp] theorem State.setButtons_a : (s.setButtons v).a = s.a := rfl
@[simp] theorem State.setButtons_x : (s.setButtons v).x = s.x := rfl
@[simp] theorem State.setButtons_y : (s.setButtons v).y = s.y := rfl
@[simp] theorem State.setButtons_sp : (s.setButtons v).sp = s.sp := rfl
@[simp] theorem State.setButtons_pc : (s.setButtons v).pc = s.pc := rfl
@[simp] theorem State.setButtons_p : (s.setButtons v).p = s.p := rfl
@[simp] theorem State.setButtons_nmiPending : (s.setButtons v).nmiPending = s.nmiPending := rfl
@[simp] theorem State.setButtons_irqPending : (s.setButtons v).irqPending = s.irqPending := rfl
@[simp] theorem State.setButtons_halted : (s.setButtons v).halted = s.halted := rfl
@[simp] theorem State.setButtons_refused : (s.setButtons v).refused = s.refused := rfl
@[simp] theorem State.setButtons_faulted : (s.setButtons v).faulted = s.faulted := rfl
@[simp] theorem State.setButtons_cycles : (s.setButtons v).cycles = s.cycles := rfl
@[simp] theorem State.setButtons_wram : (s.setButtons v).wram = s.wram := rfl
@[simp] theorem State.setButtons_apu : (s.setButtons v).apu = s.apu := rfl
@[simp] theorem State.setButtons_ram : (s.setButtons v).ram = s.ram := rfl
@[simp] theorem State.setButtons_ppu : (s.setButtons v).ppu = s.ppu := rfl
@[simp] theorem State.setButtons_pad : (s.setButtons v).pad = s.pad := rfl
@[simp] theorem State.setButtons_buttons : (s.setButtons v).buttons = v := rfl
@[simp] theorem State.setButtons_draws : (s.setButtons v).draws = s.draws := rfl
@[simp] theorem State.setButtons_params : (s.setButtons v).params = s.params := rfl
@[simp] theorem State.setButtons_cart : (s.setButtons v).cart = s.cart := rfl
end setButtons

section setDraws
variable (n : Nat) (s : State)
@[simp] theorem State.setDraws_a : (s.setDraws n).a = s.a := rfl
@[simp] theorem State.setDraws_x : (s.setDraws n).x = s.x := rfl
@[simp] theorem State.setDraws_y : (s.setDraws n).y = s.y := rfl
@[simp] theorem State.setDraws_sp : (s.setDraws n).sp = s.sp := rfl
@[simp] theorem State.setDraws_pc : (s.setDraws n).pc = s.pc := rfl
@[simp] theorem State.setDraws_p : (s.setDraws n).p = s.p := rfl
@[simp] theorem State.setDraws_nmiPending : (s.setDraws n).nmiPending = s.nmiPending := rfl
@[simp] theorem State.setDraws_irqPending : (s.setDraws n).irqPending = s.irqPending := rfl
@[simp] theorem State.setDraws_halted : (s.setDraws n).halted = s.halted := rfl
@[simp] theorem State.setDraws_refused : (s.setDraws n).refused = s.refused := rfl
@[simp] theorem State.setDraws_faulted : (s.setDraws n).faulted = s.faulted := rfl
@[simp] theorem State.setDraws_cycles : (s.setDraws n).cycles = s.cycles := rfl
@[simp] theorem State.setDraws_wram : (s.setDraws n).wram = s.wram := rfl
@[simp] theorem State.setDraws_apu : (s.setDraws n).apu = s.apu := rfl
@[simp] theorem State.setDraws_ram : (s.setDraws n).ram = s.ram := rfl
@[simp] theorem State.setDraws_ppu : (s.setDraws n).ppu = s.ppu := rfl
@[simp] theorem State.setDraws_pad : (s.setDraws n).pad = s.pad := rfl
@[simp] theorem State.setDraws_buttons : (s.setDraws n).buttons = s.buttons := rfl
@[simp] theorem State.setDraws_draws : (s.setDraws n).draws = n := rfl
@[simp] theorem State.setDraws_params : (s.setDraws n).params = s.params := rfl
@[simp] theorem State.setDraws_cart : (s.setDraws n).cart = s.cart := rfl
end setDraws

section setCart
variable (c : Cart) (s : State)
@[simp] theorem State.setCart_a : (s.setCart c).a = s.a := rfl
@[simp] theorem State.setCart_x : (s.setCart c).x = s.x := rfl
@[simp] theorem State.setCart_y : (s.setCart c).y = s.y := rfl
@[simp] theorem State.setCart_sp : (s.setCart c).sp = s.sp := rfl
@[simp] theorem State.setCart_pc : (s.setCart c).pc = s.pc := rfl
@[simp] theorem State.setCart_p : (s.setCart c).p = s.p := rfl
@[simp] theorem State.setCart_nmiPending : (s.setCart c).nmiPending = s.nmiPending := rfl
@[simp] theorem State.setCart_irqPending : (s.setCart c).irqPending = s.irqPending := rfl
@[simp] theorem State.setCart_halted : (s.setCart c).halted = s.halted := rfl
@[simp] theorem State.setCart_refused : (s.setCart c).refused = s.refused := rfl
@[simp] theorem State.setCart_faulted : (s.setCart c).faulted = s.faulted := rfl
@[simp] theorem State.setCart_cycles : (s.setCart c).cycles = s.cycles := rfl
@[simp] theorem State.setCart_wram : (s.setCart c).wram = s.wram := rfl
@[simp] theorem State.setCart_apu : (s.setCart c).apu = s.apu := rfl
@[simp] theorem State.setCart_ram : (s.setCart c).ram = s.ram := rfl
@[simp] theorem State.setCart_ppu : (s.setCart c).ppu = s.ppu := rfl
@[simp] theorem State.setCart_pad : (s.setCart c).pad = s.pad := rfl
@[simp] theorem State.setCart_buttons : (s.setCart c).buttons = s.buttons := rfl
@[simp] theorem State.setCart_draws : (s.setCart c).draws = s.draws := rfl
@[simp] theorem State.setCart_params : (s.setCart c).params = s.params := rfl
@[simp] theorem State.setCart_cart : (s.setCart c).cart = c := rfl
end setCart

end Sys2Proof.Machine
end

