-- ==== Sys2Proof/Laws/Bus.lean ====
section
/-! SUPPORT. The bus: what a read and a write can change, that neither looks at the CPU's own registers, and that the stack
page and the vectors are plain storage. -/

namespace Sys2Proof.Machine

section region
variable (s : State) (k : Word)
@[simp] theorem State.region_setA (v : Byte) : (s.setA v).region k = s.region k := rfl
@[simp] theorem State.region_setX (v : Byte) : (s.setX v).region k = s.region k := rfl
@[simp] theorem State.region_setY (v : Byte) : (s.setY v).region k = s.region k := rfl
@[simp] theorem State.region_setSp (v : Byte) : (s.setSp v).region k = s.region k := rfl
@[simp] theorem State.region_setPc (v : Word) : (s.setPc v).region k = s.region k := rfl
@[simp] theorem State.region_setFlags (q : Flags) : (s.setFlags q).region k = s.region k := rfl
@[simp] theorem State.region_setNmiPending (b : Bool) : (s.setNmiPending b).region k = s.region k := rfl
@[simp] theorem State.region_setIrqPending (b : Bool) : (s.setIrqPending b).region k = s.region k := rfl
@[simp] theorem State.region_setHalted (b : Bool) : (s.setHalted b).region k = s.region k := rfl
@[simp] theorem State.region_setRefused (m : Option Byte) : (s.setRefused m).region k = s.region k := rfl
@[simp] theorem State.region_setFaulted (m : Option Word) : (s.setFaulted m).region k = s.region k := rfl
@[simp] theorem State.region_addCycles (n : Nat) : (s.addCycles n).region k = s.region k := rfl
@[simp] theorem State.region_setWram (m : Memory) : (s.setWram m).region k = s.region k := rfl
@[simp] theorem State.region_setApu (m : Memory) : (s.setApu m).region k = s.region k := rfl
@[simp] theorem State.region_setRam (m : Memory) : (s.setRam m).region k = s.region k := rfl
@[simp] theorem State.region_setPpu (q : Ppu) : (s.setPpu q).region k = s.region k := rfl
@[simp] theorem State.region_setPad (q : Pad) : (s.setPad q).region k = s.region k := rfl
@[simp] theorem State.region_setButtons (v : Byte) : (s.setButtons v).region k = s.region k := rfl
@[simp] theorem State.region_setDraws (n : Nat) : (s.setDraws n).region k = s.region k := rfl
end region

/-! ### Reads -/

/-- A read changes only the PPU, the gamepad port and the count of host bytes. -/
theorem busRead_frame (k : Word) (s : State) : (busRead k s).2 = { s with
    ppu := (busRead k s).2.ppu, pad := (busRead k s).2.pad, draws := (busRead k s).2.draws } := by
  unfold busRead
  cases s.region k
  case pad1 => simp only [padRead]; split <;> rfl
  all_goals rfl

section busRead
variable (k : Word) (s : State)
@[simp] theorem busRead_a : (busRead k s).2.a = s.a := by rw [busRead_frame]
@[simp] theorem busRead_x : (busRead k s).2.x = s.x := by rw [busRead_frame]
@[simp] theorem busRead_y : (busRead k s).2.y = s.y := by rw [busRead_frame]
@[simp] theorem busRead_sp : (busRead k s).2.sp = s.sp := by rw [busRead_frame]
@[simp] theorem busRead_pc : (busRead k s).2.pc = s.pc := by rw [busRead_frame]
@[simp] theorem busRead_p : (busRead k s).2.p = s.p := by rw [busRead_frame]
@[simp] theorem busRead_nmiPending : (busRead k s).2.nmiPending = s.nmiPending := by rw [busRead_frame]
@[simp] theorem busRead_irqPending : (busRead k s).2.irqPending = s.irqPending := by rw [busRead_frame]
@[simp] theorem busRead_halted : (busRead k s).2.halted = s.halted := by rw [busRead_frame]
@[simp] theorem busRead_refused : (busRead k s).2.refused = s.refused := by rw [busRead_frame]
@[simp] theorem busRead_faulted : (busRead k s).2.faulted = s.faulted := by rw [busRead_frame]
@[simp] theorem busRead_cycles : (busRead k s).2.cycles = s.cycles := by rw [busRead_frame]
@[simp] theorem busRead_wram : (busRead k s).2.wram = s.wram := by rw [busRead_frame]
@[simp] theorem busRead_apu : (busRead k s).2.apu = s.apu := by rw [busRead_frame]
@[simp] theorem busRead_ram : (busRead k s).2.ram = s.ram := by rw [busRead_frame]
@[simp] theorem busRead_buttons : (busRead k s).2.buttons = s.buttons := by rw [busRead_frame]
@[simp] theorem busRead_params : (busRead k s).2.params = s.params := by rw [busRead_frame]
@[simp] theorem busRead_cart : (busRead k s).2.cart = s.cart := by rw [busRead_frame]
@[simp] theorem busRead_region (j : Word) : (busRead k s).2.region j = s.region j := by rw [busRead_frame]; rfl
end busRead

/-- The PPU after a read is the one before it, or the one after a register read. -/
theorem busRead_ppu_cases (k : Word) (s : State) : (busRead k s).2.ppu = s.ppu ∨
    ∃ r, (busRead k s).2.ppu = (ppuRead s.params.paletteMirror s.cart r s.ppu).2 := by
  unfold busRead
  cases s.region k
  case ppu r => exact .inr ⟨r, rfl⟩
  case pad1 => refine .inl ?_; simp only [padRead]; split <;> rfl
  all_goals exact .inl rfl

@[simp] theorem busRead_ppu_vram (k : Word) (s : State) : (busRead k s).2.ppu.vram = s.ppu.vram := by
  rcases busRead_ppu_cases k s with h | ⟨r, h⟩ <;> simp [h]
@[simp] theorem busRead_ppu_palette (k : Word) (s : State) : (busRead k s).2.ppu.palette = s.ppu.palette := by
  rcases busRead_ppu_cases k s with h | ⟨r, h⟩ <;> simp [h]
@[simp] theorem busRead_ppu_oam (k : Word) (s : State) : (busRead k s).2.ppu.oam = s.ppu.oam := by
  rcases busRead_ppu_cases k s with h | ⟨r, h⟩ <;> simp [h]
@[simp] theorem busRead_ppu_fb (k : Word) (s : State) : (busRead k s).2.ppu.fb = s.ppu.fb := by
  rcases busRead_ppu_cases k s with h | ⟨r, h⟩ <;> simp [h]
@[simp] theorem busRead_ppu_ctrl (k : Word) (s : State) : (busRead k s).2.ppu.ctrl = s.ppu.ctrl := by
  rcases busRead_ppu_cases k s with h | ⟨r, h⟩ <;> simp [h]
@[simp] theorem busRead_ppu_mask (k : Word) (s : State) : (busRead k s).2.ppu.mask = s.ppu.mask := by
  rcases busRead_ppu_cases k s with h | ⟨r, h⟩ <;> simp [h]
@[simp] theorem busRead_ppu_oamAddr (k : Word) (s : State) : (busRead k s).2.ppu.oamAddr = s.ppu.oamAddr := by
  rcases busRead_ppu_cases k s with h | ⟨r, h⟩ <;> simp [h]
@[simp] theorem busRead_ppu_scanline (k : Word) (s : State) : (busRead k s).2.ppu.scanline = s.ppu.scanline := by
  rcases busRead_ppu_cases k s with h | ⟨r, h⟩ <;> simp [h]
@[simp] theorem busRead_ppu_cycle (k : Word) (s : State) : (busRead k s).2.ppu.cycle = s.ppu.cycle := by
  rcases busRead_ppu_cases k s with h | ⟨r, h⟩ <;> simp [h]
@[simp] theorem busRead_ppu_nmiOut (k : Word) (s : State) : (busRead k s).2.ppu.nmiOut = s.ppu.nmiOut := by
  rcases busRead_ppu_cases k s with h | ⟨r, h⟩ <;> simp [h]

@[simp] theorem busRead_pad_strobe (k : Word) (s : State) : (busRead k s).2.pad.strobe = s.pad.strobe := by
  unfold busRead
  cases s.region k
  case pad1 => simp only [padRead]; split <;> rfl
  all_goals rfl

@[simp] theorem busRead_pad_snapshot (k : Word) (s : State) : (busRead k s).2.pad.snapshot = s.pad.snapshot := by
  unfold busRead
  cases s.region k
  case pad1 => simp only [padRead]; split <;> rfl
  all_goals rfl

/-! A read does not look at the CPU's own registers. -/

section busRead_set
variable (k : Word) (s : State)
theorem busRead_setA (v : Byte) : busRead k (s.setA v) = ((busRead k s).1, (busRead k s).2.setA v) := by
  simp only [busRead, State.region_setA]
  cases s.region k
  case pad1 => cases h : s.pad.strobe <;> (first | (simp [padRead, h]; done) | (simp [padRead, h]; rfl))
  all_goals rfl
@[simp] theorem busRead_setA_fst (v : Byte) : (busRead k (s.setA v)).1 = (busRead k s).1 := by rw [busRead_setA]
@[simp] theorem busRead_setA_snd (v : Byte) : (busRead k (s.setA v)).2 = (busRead k s).2.setA v := by
  rw [busRead_setA]
theorem busRead_setX (v : Byte) : busRead k (s.setX v) = ((busRead k s).1, (busRead k s).2.setX v) := by
  simp only [busRead, State.region_setX]
  cases s.region k
  case pad1 => cases h : s.pad.strobe <;> (first | (simp [padRead, h]; done) | (simp [padRead, h]; rfl))
  all_goals rfl
@[simp] theorem busRead_setX_fst (v : Byte) : (busRead k (s.setX v)).1 = (busRead k s).1 := by rw [busRead_setX]
@[simp] theorem busRead_setX_snd (v : Byte) : (busRead k (s.setX v)).2 = (busRead k s).2.setX v := by
  rw [busRead_setX]
theorem busRead_setY (v : Byte) : busRead k (s.setY v) = ((busRead k s).1, (busRead k s).2.setY v) := by
  simp only [busRead, State.region_setY]
  cases s.region k
  case pad1 => cases h : s.pad.strobe <;> (first | (simp [padRead, h]; done) | (simp [padRead, h]; rfl))
  all_goals rfl
@[simp] theorem busRead_setY_fst (v : Byte) : (busRead k (s.setY v)).1 = (busRead k s).1 := by rw [busRead_setY]
@[simp] theorem busRead_setY_snd (v : Byte) : (busRead k (s.setY v)).2 = (busRead k s).2.setY v := by
  rw [busRead_setY]
theorem busRead_setSp (v : Byte) : busRead k (s.setSp v) = ((busRead k s).1, (busRead k s).2.setSp v) := by
  simp only [busRead, State.region_setSp]
  cases s.region k
  case pad1 => cases h : s.pad.strobe <;> (first | (simp [padRead, h]; done) | (simp [padRead, h]; rfl))
  all_goals rfl
@[simp] theorem busRead_setSp_fst (v : Byte) : (busRead k (s.setSp v)).1 = (busRead k s).1 := by rw [busRead_setSp]
@[simp] theorem busRead_setSp_snd (v : Byte) : (busRead k (s.setSp v)).2 = (busRead k s).2.setSp v := by
  rw [busRead_setSp]
theorem busRead_setPc (v : Word) : busRead k (s.setPc v) = ((busRead k s).1, (busRead k s).2.setPc v) := by
  simp only [busRead, State.region_setPc]
  cases s.region k
  case pad1 => cases h : s.pad.strobe <;> (first | (simp [padRead, h]; done) | (simp [padRead, h]; rfl))
  all_goals rfl
@[simp] theorem busRead_setPc_fst (v : Word) : (busRead k (s.setPc v)).1 = (busRead k s).1 := by rw [busRead_setPc]
@[simp] theorem busRead_setPc_snd (v : Word) : (busRead k (s.setPc v)).2 = (busRead k s).2.setPc v := by
  rw [busRead_setPc]
theorem busRead_setFlags (q : Flags) : busRead k (s.setFlags q) = ((busRead k s).1, (busRead k s).2.setFlags q) := by
  simp only [busRead, State.region_setFlags]
  cases s.region k
  case pad1 => cases h : s.pad.strobe <;> (first | (simp [padRead, h]; done) | (simp [padRead, h]; rfl))
  all_goals rfl
@[simp] theorem busRead_setFlags_fst (q : Flags) : (busRead k (s.setFlags q)).1 = (busRead k s).1 := by rw [busRead_setFlags]
@[simp] theorem busRead_setFlags_snd (q : Flags) : (busRead k (s.setFlags q)).2 = (busRead k s).2.setFlags q := by
  rw [busRead_setFlags]
theorem busRead_setNmiPending (b : Bool) : busRead k (s.setNmiPending b) = ((busRead k s).1, (busRead k s).2.setNmiPending b) := by
  simp only [busRead, State.region_setNmiPending]
  cases s.region k
  case pad1 => cases h : s.pad.strobe <;> (first | (simp [padRead, h]; done) | (simp [padRead, h]; rfl))
  all_goals rfl
@[simp] theorem busRead_setNmiPending_fst (b : Bool) : (busRead k (s.setNmiPending b)).1 = (busRead k s).1 := by rw [busRead_setNmiPending]
@[simp] theorem busRead_setNmiPending_snd (b : Bool) : (busRead k (s.setNmiPending b)).2 = (busRead k s).2.setNmiPending b := by
  rw [busRead_setNmiPending]
theorem busRead_setIrqPending (b : Bool) : busRead k (s.setIrqPending b) = ((busRead k s).1, (busRead k s).2.setIrqPending b) := by
  simp only [busRead, State.region_setIrqPending]
  cases s.region k
  case pad1 => cases h : s.pad.strobe <;> (first | (simp [padRead, h]; done) | (simp [padRead, h]; rfl))
  all_goals rfl
@[simp] theorem busRead_setIrqPending_fst (b : Bool) : (busRead k (s.setIrqPending b)).1 = (busRead k s).1 := by rw [busRead_setIrqPending]
@[simp] theorem busRead_setIrqPending_snd (b : Bool) : (busRead k (s.setIrqPending b)).2 = (busRead k s).2.setIrqPending b := by
  rw [busRead_setIrqPending]
theorem busRead_setHalted (b : Bool) : busRead k (s.setHalted b) = ((busRead k s).1, (busRead k s).2.setHalted b) := by
  simp only [busRead, State.region_setHalted]
  cases s.region k
  case pad1 => cases h : s.pad.strobe <;> (first | (simp [padRead, h]; done) | (simp [padRead, h]; rfl))
  all_goals rfl
@[simp] theorem busRead_setHalted_fst (b : Bool) : (busRead k (s.setHalted b)).1 = (busRead k s).1 := by rw [busRead_setHalted]
@[simp] theorem busRead_setHalted_snd (b : Bool) : (busRead k (s.setHalted b)).2 = (busRead k s).2.setHalted b := by
  rw [busRead_setHalted]
theorem busRead_setRefused (m : Option Byte) : busRead k (s.setRefused m) = ((busRead k s).1, (busRead k s).2.setRefused m) := by
  simp only [busRead, State.region_setRefused]
  cases s.region k
  case pad1 => cases h : s.pad.strobe <;> (first | (simp [padRead, h]; done) | (simp [padRead, h]; rfl))
  all_goals rfl
@[simp] theorem busRead_setRefused_fst (m : Option Byte) : (busRead k (s.setRefused m)).1 = (busRead k s).1 := by rw [busRead_setRefused]
@[simp] theorem busRead_setRefused_snd (m : Option Byte) : (busRead k (s.setRefused m)).2 = (busRead k s).2.setRefused m := by
  rw [busRead_setRefused]
theorem busRead_setFaulted (m : Option Word) : busRead k (s.setFaulted m) = ((busRead k s).1, (busRead k s).2.setFaulted m) := by
  simp only [busRead, State.region_setFaulted]
  cases s.region k
  case pad1 => cases h : s.pad.strobe <;> (first | (simp [padRead, h]; done) | (simp [padRead, h]; rfl))
  all_goals rfl
@[simp] theorem busRead_setFaulted_fst (m : Option Word) : (busRead k (s.setFaulted m)).1 = (busRead k s).1 := by rw [busRead_setFaulted]
@[simp] theorem busRead_setFaulted_snd (m : Option Word) : (busRead k (s.setFaulted m)).2 = (busRead k s).2.setFaulted m := by
  rw [busRead_setFaulted]
theorem busRead_addCycles (n : Nat) : busRead k (s.addCycles n) = ((busRead k s).1, (busRead k s).2.addCycles n) := by
  simp only [busRead, State.region_addCycles]
  cases s.region k
  case pad1 => cases h : s.pad.strobe <;> (first | (simp [padRead, h]; done) | (simp [padRead, h]; rfl))
  all_goals rfl
@[simp] theorem busRead_addCycles_fst (n : Nat) : (busRead k (s.addCycles n)).1 = (busRead k s).1 := by rw [busRead_addCycles]
@[simp] theorem busRead_addCycles_snd (n : Nat) : (busRead k (s.addCycles n)).2 = (busRead k s).2.addCycles n := by
  rw [busRead_addCycles]
end busRead_set

/-! ### Writes -/

theorem oamDmaByte_frame (page : Byte) (s : State) (i : Nat) : oamDmaByte page s i = { s with
    ppu := (oamDmaByte page s i).ppu, pad := (oamDmaByte page s i).pad, draws := (oamDmaByte page s i).draws } := by
  simp only [oamDmaByte]
  generalize w16 page (BitVec.ofNat 8 i) = k
  rw [busRead_frame k s]
  rfl

theorem oamDmaFold_frame (page : Byte) (l : List Nat) (s : State) : l.foldl (oamDmaByte page) s = { s with
    ppu := (l.foldl (oamDmaByte page) s).ppu, pad := (l.foldl (oamDmaByte page) s).pad
    draws := (l.foldl (oamDmaByte page) s).draws } := by
  induction l generalizing s with
  | nil => rfl
  | cons i l ih =>
    rw [List.foldl_cons, ih, oamDmaByte_frame]

/-- OAM DMA changes only the PPU, the devices it reads from and the cycle count. -/
theorem oamDma_frame (page : Byte) (s : State) : oamDma page s = { s with
    ppu := (oamDma page s).ppu, pad := (oamDma page s).pad, draws := (oamDma page s).draws
    cycles := (oamDma page s).cycles } := by
  unfold oamDma
  generalize List.range 256 = l
  cases s.params.oamDmaMode
  · rfl
  · simp only
    rw [oamDmaFold_frame]
    rfl

/-- A write changes only memory, the devices and, by OAM DMA, the cycle count. -/
theorem busStore_frame (k : Word) (b : Byte) (s : State) : busStore k b s = { s with
    wram := (busStore k b s).wram, apu := (busStore k b s).apu, ram := (busStore k b s).ram
    ppu := (busStore k b s).ppu, pad := (busStore k b s).pad, draws := (busStore k b s).draws
    cycles := (busStore k b s).cycles } := by
  unfold busStore
  cases s.region k
  case oamDma => simp only; rw [oamDma_frame]
  all_goals rfl

section busStore
variable (k : Word) (u : Byte) (s : State)
@[simp] theorem busStore_a : (busStore k u s).a = s.a := by rw [busStore_frame]
@[simp] theorem busStore_x : (busStore k u s).x = s.x := by rw [busStore_frame]
@[simp] theorem busStore_y : (busStore k u s).y = s.y := by rw [busStore_frame]
@[simp] theorem busStore_sp : (busStore k u s).sp = s.sp := by rw [busStore_frame]
@[simp] theorem busStore_pc : (busStore k u s).pc = s.pc := by rw [busStore_frame]
@[simp] theorem busStore_p : (busStore k u s).p = s.p := by rw [busStore_frame]
@[simp] theorem busStore_nmiPending : (busStore k u s).nmiPending = s.nmiPending := by rw [busStore_frame]
@[simp] theorem busStore_irqPending : (busStore k u s).irqPending = s.irqPending := by rw [busStore_frame]
@[simp] theorem busStore_halted : (busStore k u s).halted = s.halted := by rw [busStore_frame]
@[simp] theorem busStore_refused : (busStore k u s).refused = s.refused := by rw [busStore_frame]
@[simp] theorem busStore_faulted : (busStore k u s).faulted = s.faulted := by rw [busStore_frame]
@[simp] theorem busStore_buttons : (busStore k u s).buttons = s.buttons := by rw [busStore_frame]
@[simp] theorem busStore_params : (busStore k u s).params = s.params := by rw [busStore_frame]
@[simp] theorem busStore_cart : (busStore k u s).cart = s.cart := by rw [busStore_frame]
@[simp] theorem busStore_region (j : Word) : (busStore k u s).region j = s.region j := by rw [busStore_frame]; rfl
end busStore

/-! A write does not look at the CPU's own registers. -/

section busStore_set
variable (k : Word) (u : Byte) (s : State)
theorem oamDmaByte_setA (v : Byte) (i : Nat) : oamDmaByte u (s.setA v) i = (oamDmaByte u s i).setA v := by
  simp only [oamDmaByte, busRead_setA]
  rfl
theorem oamDmaFold_setA (v : Byte) (l : List Nat) :
    l.foldl (oamDmaByte u) (s.setA v) = (l.foldl (oamDmaByte u) s).setA v := by
  induction l generalizing s with
  | nil => rfl
  | cons i l ih => rw [List.foldl_cons, oamDmaByte_setA, ih]; rfl
@[simp] theorem busStore_setA (v : Byte) : busStore k u (s.setA v) = (busStore k u s).setA v := by
  simp only [busStore, State.region_setA]
  cases s.region k
  case oamDma =>
    simp only [oamDma, State.setA_params]
    generalize List.range 256 = l
    cases s.params.oamDmaMode
    · rfl
    · simp only; rw [oamDmaFold_setA]; rfl
  all_goals rfl
theorem oamDmaByte_setX (v : Byte) (i : Nat) : oamDmaByte u (s.setX v) i = (oamDmaByte u s i).setX v := by
  simp only [oamDmaByte, busRead_setX]
  rfl
theorem oamDmaFold_setX (v : Byte) (l : List Nat) :
    l.foldl (oamDmaByte u) (s.setX v) = (l.foldl (oamDmaByte u) s).setX v := by
  induction l generalizing s with
  | nil => rfl
  | cons i l ih => rw [List.foldl_cons, oamDmaByte_setX, ih]; rfl
@[simp] theorem busStore_setX (v : Byte) : busStore k u (s.setX v) = (busStore k u s).setX v := by
  simp only [busStore, State.region_setX]
  cases s.region k
  case oamDma =>
    simp only [oamDma, State.setX_params]
    generalize List.range 256 = l
    cases s.params.oamDmaMode
    · rfl
    · simp only; rw [oamDmaFold_setX]; rfl
  all_goals rfl
theorem oamDmaByte_setY (v : Byte) (i : Nat) : oamDmaByte u (s.setY v) i = (oamDmaByte u s i).setY v := by
  simp only [oamDmaByte, busRead_setY]
  rfl
theorem oamDmaFold_setY (v : Byte) (l : List Nat) :
    l.foldl (oamDmaByte u) (s.setY v) = (l.foldl (oamDmaByte u) s).setY v := by
  induction l generalizing s with
  | nil => rfl
  | cons i l ih => rw [List.foldl_cons, oamDmaByte_setY, ih]; rfl
@[simp] theorem busStore_setY (v : Byte) : busStore k u (s.setY v) = (busStore k u s).setY v := by
  simp only [busStore, State.region_setY]
  cases s.region k
  case oamDma =>
    simp only [oamDma, State.setY_params]
    generalize List.range 256 = l
    cases s.params.oamDmaMode
    · rfl
    · simp only; rw [oamDmaFold_setY]; rfl
  all_goals rfl
theorem oamDmaByte_setSp (v : Byte) (i : Nat) : oamDmaByte u (s.setSp v) i = (oamDmaByte u s i).setSp v := by
  simp only [oamDmaByte, busRead_setSp]
  rfl
theorem oamDmaFold_setSp (v : Byte) (l : List Nat) :
    l.foldl (oamDmaByte u) (s.setSp v) = (l.foldl (oamDmaByte u) s).setSp v := by
  induction l generalizing s with
  | nil => rfl
  | cons i l ih => rw [List.foldl_cons, oamDmaByte_setSp, ih]; rfl
@[simp] theorem busStore_setSp (v : Byte) : busStore k u (s.setSp v) = (busStore k u s).setSp v := by
  simp only [busStore, State.region_setSp]
  cases s.region k
  case oamDma =>
    simp only [oamDma, State.setSp_params]
    generalize List.range 256 = l
    cases s.params.oamDmaMode
    · rfl
    · simp only; rw [oamDmaFold_setSp]; rfl
  all_goals rfl
theorem oamDmaByte_setPc (v : Word) (i : Nat) : oamDmaByte u (s.setPc v) i = (oamDmaByte u s i).setPc v := by
  simp only [oamDmaByte, busRead_setPc]
  rfl
theorem oamDmaFold_setPc (v : Word) (l : List Nat) :
    l.foldl (oamDmaByte u) (s.setPc v) = (l.foldl (oamDmaByte u) s).setPc v := by
  induction l generalizing s with
  | nil => rfl
  | cons i l ih => rw [List.foldl_cons, oamDmaByte_setPc, ih]; rfl
@[simp] theorem busStore_setPc (v : Word) : busStore k u (s.setPc v) = (busStore k u s).setPc v := by
  simp only [busStore, State.region_setPc]
  cases s.region k
  case oamDma =>
    simp only [oamDma, State.setPc_params]
    generalize List.range 256 = l
    cases s.params.oamDmaMode
    · rfl
    · simp only; rw [oamDmaFold_setPc]; rfl
  all_goals rfl
theorem oamDmaByte_setFlags (q : Flags) (i : Nat) : oamDmaByte u (s.setFlags q) i = (oamDmaByte u s i).setFlags q := by
  simp only [oamDmaByte, busRead_setFlags]
  rfl
theorem oamDmaFold_setFlags (q : Flags) (l : List Nat) :
    l.foldl (oamDmaByte u) (s.setFlags q) = (l.foldl (oamDmaByte u) s).setFlags q := by
  induction l generalizing s with
  | nil => rfl
  | cons i l ih => rw [List.foldl_cons, oamDmaByte_setFlags, ih]; rfl
@[simp] theorem busStore_setFlags (q : Flags) : busStore k u (s.setFlags q) = (busStore k u s).setFlags q := by
  simp only [busStore, State.region_setFlags]
  cases s.region k
  case oamDma =>
    simp only [oamDma, State.setFlags_params]
    generalize List.range 256 = l
    cases s.params.oamDmaMode
    · rfl
    · simp only; rw [oamDmaFold_setFlags]; rfl
  all_goals rfl
theorem oamDmaByte_setNmiPending (b : Bool) (i : Nat) : oamDmaByte u (s.setNmiPending b) i = (oamDmaByte u s i).setNmiPending b := by
  simp only [oamDmaByte, busRead_setNmiPending]
  rfl
theorem oamDmaFold_setNmiPending (b : Bool) (l : List Nat) :
    l.foldl (oamDmaByte u) (s.setNmiPending b) = (l.foldl (oamDmaByte u) s).setNmiPending b := by
  induction l generalizing s with
  | nil => rfl
  | cons i l ih => rw [List.foldl_cons, oamDmaByte_setNmiPending, ih]; rfl
@[simp] theorem busStore_setNmiPending (b : Bool) : busStore k u (s.setNmiPending b) = (busStore k u s).setNmiPending b := by
  simp only [busStore, State.region_setNmiPending]
  cases s.region k
  case oamDma =>
    simp only [oamDma, State.setNmiPending_params]
    generalize List.range 256 = l
    cases s.params.oamDmaMode
    · rfl
    · simp only; rw [oamDmaFold_setNmiPending]; rfl
  all_goals rfl
theorem oamDmaByte_setIrqPending (b : Bool) (i : Nat) : oamDmaByte u (s.setIrqPending b) i = (oamDmaByte u s i).setIrqPending b := by
  simp only [oamDmaByte, busRead_setIrqPending]
  rfl
theorem oamDmaFold_setIrqPending (b : Bool) (l : List Nat) :
    l.foldl (oamDmaByte u) (s.setIrqPending b) = (l.foldl (oamDmaByte u) s).setIrqPending b := by
  induction l generalizing s with
  | nil => rfl
  | cons i l ih => rw [List.foldl_cons, oamDmaByte_setIrqPending, ih]; rfl
@[simp] theorem busStore_setIrqPending (b : Bool) : busStore k u (s.setIrqPending b) = (busStore k u s).setIrqPending b := by
  simp only [busStore, State.region_setIrqPending]
  cases s.region k
  case oamDma =>
    simp only [oamDma, State.setIrqPending_params]
    generalize List.range 256 = l
    cases s.params.oamDmaMode
    · rfl
    · simp only; rw [oamDmaFold_setIrqPending]; rfl
  all_goals rfl
theorem oamDmaByte_setHalted (b : Bool) (i : Nat) : oamDmaByte u (s.setHalted b) i = (oamDmaByte u s i).setHalted b := by
  simp only [oamDmaByte, busRead_setHalted]
  rfl
theorem oamDmaFold_setHalted (b : Bool) (l : List Nat) :
    l.foldl (oamDmaByte u) (s.setHalted b) = (l.foldl (oamDmaByte u) s).setHalted b := by
  induction l generalizing s with
  | nil => rfl
  | cons i l ih => rw [List.foldl_cons, oamDmaByte_setHalted, ih]; rfl
@[simp] theorem busStore_setHalted (b : Bool) : busStore k u (s.setHalted b) = (busStore k u s).setHalted b := by
  simp only [busStore, State.region_setHalted]
  cases s.region k
  case oamDma =>
    simp only [oamDma, State.setHalted_params]
    generalize List.range 256 = l
    cases s.params.oamDmaMode
    · rfl
    · simp only; rw [oamDmaFold_setHalted]; rfl
  all_goals rfl
theorem oamDmaByte_setRefused (m : Option Byte) (i : Nat) : oamDmaByte u (s.setRefused m) i = (oamDmaByte u s i).setRefused m := by
  simp only [oamDmaByte, busRead_setRefused]
  rfl
theorem oamDmaFold_setRefused (m : Option Byte) (l : List Nat) :
    l.foldl (oamDmaByte u) (s.setRefused m) = (l.foldl (oamDmaByte u) s).setRefused m := by
  induction l generalizing s with
  | nil => rfl
  | cons i l ih => rw [List.foldl_cons, oamDmaByte_setRefused, ih]; rfl
@[simp] theorem busStore_setRefused (m : Option Byte) : busStore k u (s.setRefused m) = (busStore k u s).setRefused m := by
  simp only [busStore, State.region_setRefused]
  cases s.region k
  case oamDma =>
    simp only [oamDma, State.setRefused_params]
    generalize List.range 256 = l
    cases s.params.oamDmaMode
    · rfl
    · simp only; rw [oamDmaFold_setRefused]; rfl
  all_goals rfl
theorem oamDmaByte_setFaulted (m : Option Word) (i : Nat) : oamDmaByte u (s.setFaulted m) i = (oamDmaByte u s i).setFaulted m := by
  simp only [oamDmaByte, busRead_setFaulted]
  rfl
theorem oamDmaFold_setFaulted (m : Option Word) (l : List Nat) :
    l.foldl (oamDmaByte u) (s.setFaulted m) = (l.foldl (oamDmaByte u) s).setFaulted m := by
  induction l generalizing s with
  | nil => rfl
  | cons i l ih => rw [List.foldl_cons, oamDmaByte_setFaulted, ih]; rfl
@[simp] theorem busStore_setFaulted (m : Option Word) : busStore k u (s.setFaulted m) = (busStore k u s).setFaulted m := by
  simp only [busStore, State.region_setFaulted]
  cases s.region k
  case oamDma =>
    simp only [oamDma, State.setFaulted_params]
    generalize List.range 256 = l
    cases s.params.oamDmaMode
    · rfl
    · simp only; rw [oamDmaFold_setFaulted]; rfl
  all_goals rfl
theorem oamDmaByte_addCycles (n : Nat) (i : Nat) : oamDmaByte u (s.addCycles n) i = (oamDmaByte u s i).addCycles n := by
  simp only [oamDmaByte, busRead_addCycles]
  rfl
theorem oamDmaFold_addCycles (n : Nat) (l : List Nat) :
    l.foldl (oamDmaByte u) (s.addCycles n) = (l.foldl (oamDmaByte u) s).addCycles n := by
  induction l generalizing s with
  | nil => rfl
  | cons i l ih => rw [List.foldl_cons, oamDmaByte_addCycles, ih]; rfl
@[simp] theorem busStore_addCycles (n : Nat) : busStore k u (s.addCycles n) = (busStore k u s).addCycles n := by
  simp only [busStore, State.region_addCycles]
  cases s.region k
  case oamDma =>
    simp only [oamDma, State.addCycles_params]
    generalize List.range 256 = l
    cases s.params.oamDmaMode
    · rfl
    · simp only; rw [oamDmaFold_addCycles]; simp only [State.addCycles, Nat.add_right_comm]
  all_goals rfl
end busStore_set

/-- The cycle count never falls in a write. -/
theorem busStore_cycles_le (k : Word) (b : Byte) (s : State) : s.cycles ≤ (busStore k b s).cycles := by
  unfold busStore
  cases s.region k
  case oamDma =>
    simp only [oamDma]
    generalize List.range 256 = l
    cases s.params.oamDmaMode
    · exact le_rfl
    · simp only; rw [oamDmaFold_frame]; simp
  all_goals exact le_rfl

/-! ### The stack page and the vectors are plain storage -/

theorem w16_toNat (h l : Byte) : (w16 h l).toNat = h.toNat * 256 + l.toNat := by
  rw [w16, BitVec.toNat_append, Nat.shiftLeft_eq, Nat.mul_comm, ← Nat.two_pow_add_eq_or_of_lt l.isLt, Nat.mul_comm]

theorem stackAddress_toNat (sp : Byte) : (stackAddress sp).toNat = 256 + sp.toNat := by
  rw [stackAddress, w16_toNat]
  rfl

/-- The storage behind the stack page. -/
theorem region_stack (s : State) (sp : Byte) : s.region (stackAddress sp) =
    match s.params.busVariant with
    | .nes => .wram (256 + sp.toNat)
    | .flatRam => .ram (256 + sp.toNat) := by
  have h := sp.isLt
  unfold State.region
  cases s.params.busVariant
  · simp only [nesRegion, stackAddress_toNat]
    rw [if_pos (by omega), Nat.mod_eq_of_lt (by omega)]
  · simp only [stackAddress_toNat]

/-- A push never faults. -/
theorem writeFaults_stack (s : State) (sp : Byte) : writeFaults (stackAddress sp) s = false := by
  unfold writeFaults
  rw [region_stack]
  cases s.params.busVariant <;> rfl

/-- Reading the stack page has no side effect. -/
@[simp] theorem busRead_stack (s : State) (sp : Byte) : (busRead (stackAddress sp) s).2 = s := by
  unfold busRead
  rw [region_stack]
  cases s.params.busVariant <;> rfl

/-- A write to the stack page changes one byte of work RAM, or of flat RAM. -/
theorem busStore_stack (s : State) (sp v : Byte) : busStore (stackAddress sp) v s =
    match s.params.busVariant with
    | .nes => s.setWram (s.wram.write (256 + sp.toNat) v)
    | .flatRam => s.setRam (s.ram.write (256 + sp.toNat) v) := by
  unfold busStore
  rw [region_stack]
  cases s.params.busVariant <;> rfl

theorem busStore_stack_frame (s : State) (sp v : Byte) : busStore (stackAddress sp) v s = { s with
    wram := (busStore (stackAddress sp) v s).wram, ram := (busStore (stackAddress sp) v s).ram } := by
  rw [busStore_stack]
  cases s.params.busVariant <;> rfl

@[simp] theorem busStore_stack_cycles (s : State) (sp v : Byte) :
    (busStore (stackAddress sp) v s).cycles = s.cycles := by rw [busStore_stack_frame]
@[simp] theorem busStore_stack_ppu (s : State) (sp v : Byte) :
    (busStore (stackAddress sp) v s).ppu = s.ppu := by rw [busStore_stack_frame]
@[simp] theorem busStore_stack_pad (s : State) (sp v : Byte) :
    (busStore (stackAddress sp) v s).pad = s.pad := by rw [busStore_stack_frame]
@[simp] theorem busStore_stack_draws (s : State) (sp v : Byte) :
    (busStore (stackAddress sp) v s).draws = s.draws := by rw [busStore_stack_frame]
@[simp] theorem busStore_stack_apu (s : State) (sp v : Byte) :
    (busStore (stackAddress sp) v s).apu = s.apu := by rw [busStore_stack_frame]

/-- The last row of the decoder: every earlier row's bound lies at or below 0x8000 (R44). -/
theorem nesRegion_prg {size : PrgSize} {a : Nat} (h : 0x8000 ≤ a) :
    nesRegion size a = .prg ((a - 0x8000) % size.bytes) := by
  unfold nesRegion
  repeat' split
  all_goals first | rfl | omega

/-- Reading from 0x8000 on has no side effect. -/
theorem busRead_prg (s : State) {k : Word} (h : 0x8000 ≤ k.toNat) : (busRead k s).2 = s := by
  have hr : (∃ off, s.region k = .prg off) ∨ ∃ j, s.region k = .ram j := by
    unfold State.region
    cases s.params.busVariant
    · exact .inl ⟨_, nesRegion_prg h⟩
    · exact .inr ⟨_, rfl⟩
  unfold busRead
  rcases hr with ⟨off, hr⟩ | ⟨j, hr⟩ <;> rw [hr]

theorem read16_prg (s : State) {k : Word} (h : 0x8000 ≤ k.toNat) (h' : k.toNat < 0xFFFF) : (read16 k s).2 = s := by
  have hk : (k + 1).toNat = k.toNat + 1 := by
    rw [BitVec.toNat_add, show (1 : Word).toNat = 1 from rfl, Nat.mod_eq_of_lt (by omega)]
  simp only [read16]
  rw [busRead_prg _ (by omega), busRead_prg s h]

end Sys2Proof.Machine
end

