-- ==== Sys2Proof/Laws/Ops.lean ====
section
/-! SUPPORT. The shared operations of the instructions: what each can do, said once. -/

namespace Sys2Proof.Machine

/-! ### Operands -/

theorem read16_frame (k : Word) (s : State) : (read16 k s).2 = { s with
    ppu := (read16 k s).2.ppu, pad := (read16 k s).2.pad, draws := (read16 k s).2.draws } := by
  simp only [read16]
  rw [busRead_frame (k + 1) (busRead k s).2, busRead_frame k s]

theorem zeroPagePointer_frame (b : Byte) (s : State) : (zeroPagePointer b s).2 = { s with
    ppu := (zeroPagePointer b s).2.ppu, pad := (zeroPagePointer b s).2.pad
    draws := (zeroPagePointer b s).2.draws } := by
  simp only [zeroPagePointer]
  rw [busRead_frame _ (busRead _ s).2, busRead_frame _ s]

theorem indirectTarget_frame (k : Word) (s : State) : (indirectTarget k s).2 = { s with
    ppu := (indirectTarget k s).2.ppu, pad := (indirectTarget k s).2.pad
    draws := (indirectTarget k s).2.draws } := by
  simp only [indirectTarget]
  rw [busRead_frame _ (busRead _ s).2, busRead_frame _ s]

/-- The page-cross penalty only adds cycles, at most one. -/
theorem pageCross_frame (flagged : Bool) (base ea : Word) (s : State) :
    pageCross flagged base ea s = { s with cycles := (pageCross flagged base ea s).cycles } := by
  unfold pageCross
  split <;> rfl

theorem pageCross_cycles (flagged : Bool) (base ea : Word) (s : State) :
    (pageCross flagged base ea s).cycles = s.cycles ∨
      flagged = true ∧ (pageCross flagged base ea s).cycles = s.cycles + 1 := by
  unfold pageCross
  split
  · next h => exact .inr ⟨by simp_all, rfl⟩
  · exact .inl rfl

@[simp] theorem pageCross_false (base ea : Word) (s : State) : pageCross false base ea s = s := rfl

/-- Computing an effective address changes only devices and the cycle count. -/
theorem effectiveAddress_frame (flagged : Bool) (op : Operand) (s : State) : (effectiveAddress flagged op s).2 = { s with
    ppu := (effectiveAddress flagged op s).2.ppu, pad := (effectiveAddress flagged op s).2.pad
    draws := (effectiveAddress flagged op s).2.draws, cycles := (effectiveAddress flagged op s).2.cycles } := by
  cases op <;> simp only [effectiveAddress, indexed, fetchOperand8, fetchOperand16]
  case zeropage | zeropageX | zeropageY | relative => rw [busRead_frame]
  case absolute => rw [read16_frame]
  case absoluteX | absoluteY => rw [pageCross_frame, read16_frame]
  case indirect => rw [indirectTarget_frame, read16_frame]
  case indirectX => rw [zeroPagePointer_frame, busRead_frame s.pc s]
  case indirectY => rw [pageCross_frame, zeroPagePointer_frame, busRead_frame s.pc s]

/-- Computing an effective address adds at most one cycle, and only for a flagged descriptor. -/
theorem effectiveAddress_cycles (flagged : Bool) (op : Operand) (s : State) :
    (effectiveAddress flagged op s).2.cycles = s.cycles ∨
      flagged = true ∧ (effectiveAddress flagged op s).2.cycles = s.cycles + 1 := by
  cases op <;> simp only [effectiveAddress, indexed, fetchOperand8, fetchOperand16]
  case absoluteX | absoluteY =>
    refine (pageCross_cycles _ _ _ _).imp (fun h => h.trans ?_) (And.imp_right fun h => h.trans ?_) <;>
      rw [read16_frame]
  case indirectY =>
    refine (pageCross_cycles _ _ _ _).imp (fun h => h.trans ?_) (And.imp_right fun h => h.trans ?_) <;>
      rw [zeroPagePointer_frame] <;> simp
  case zeropage | zeropageX | zeropageY | relative => simp
  case absolute => rw [read16_frame]; simp
  case indirect => rw [indirectTarget_frame, read16_frame]; simp
  case indirectX => rw [zeroPagePointer_frame]; simp
  case immediate => simp

theorem readOperand_of_ne (flagged : Bool) {op : Operand} (s : State) (h : ∀ b, op ≠ .immediate b) :
    readOperand flagged op s = busRead (effectiveAddress flagged op s).1 (effectiveAddress flagged op s).2 := by
  cases op
  case immediate b => exact absurd rfl (h b)
  all_goals rfl

/-- Reading an operand changes only devices and the cycle count. -/
theorem readOperand_frame (flagged : Bool) (op : Operand) (s : State) : (readOperand flagged op s).2 = { s with
    ppu := (readOperand flagged op s).2.ppu, pad := (readOperand flagged op s).2.pad
    draws := (readOperand flagged op s).2.draws, cycles := (readOperand flagged op s).2.cycles } := by
  by_cases h : ∃ b, op = .immediate b
  · obtain ⟨b, rfl⟩ := h
    simp only [readOperand, fetchOperand8]
    rw [busRead_frame]
  · rw [readOperand_of_ne flagged s (fun b hb => h ⟨b, hb⟩), busRead_frame, effectiveAddress_frame]

section effectiveAddress
variable (flagged : Bool) (op : Operand) (s : State)
@[simp] theorem effectiveAddress_a : (effectiveAddress flagged op s).2.a = s.a := by rw [effectiveAddress_frame]
@[simp] theorem effectiveAddress_x : (effectiveAddress flagged op s).2.x = s.x := by rw [effectiveAddress_frame]
@[simp] theorem effectiveAddress_y : (effectiveAddress flagged op s).2.y = s.y := by rw [effectiveAddress_frame]
@[simp] theorem effectiveAddress_sp : (effectiveAddress flagged op s).2.sp = s.sp := by rw [effectiveAddress_frame]
@[simp] theorem effectiveAddress_pc : (effectiveAddress flagged op s).2.pc = s.pc := by rw [effectiveAddress_frame]
@[simp] theorem effectiveAddress_p : (effectiveAddress flagged op s).2.p = s.p := by rw [effectiveAddress_frame]
@[simp] theorem effectiveAddress_nmiPending : (effectiveAddress flagged op s).2.nmiPending = s.nmiPending := by rw [effectiveAddress_frame]
@[simp] theorem effectiveAddress_irqPending : (effectiveAddress flagged op s).2.irqPending = s.irqPending := by rw [effectiveAddress_frame]
@[simp] theorem effectiveAddress_halted : (effectiveAddress flagged op s).2.halted = s.halted := by rw [effectiveAddress_frame]
@[simp] theorem effectiveAddress_refused : (effectiveAddress flagged op s).2.refused = s.refused := by rw [effectiveAddress_frame]
@[simp] theorem effectiveAddress_faulted : (effectiveAddress flagged op s).2.faulted = s.faulted := by rw [effectiveAddress_frame]
@[simp] theorem effectiveAddress_wram : (effectiveAddress flagged op s).2.wram = s.wram := by rw [effectiveAddress_frame]
@[simp] theorem effectiveAddress_apu : (effectiveAddress flagged op s).2.apu = s.apu := by rw [effectiveAddress_frame]
@[simp] theorem effectiveAddress_ram : (effectiveAddress flagged op s).2.ram = s.ram := by rw [effectiveAddress_frame]
@[simp] theorem effectiveAddress_buttons : (effectiveAddress flagged op s).2.buttons = s.buttons := by rw [effectiveAddress_frame]
@[simp] theorem effectiveAddress_params : (effectiveAddress flagged op s).2.params = s.params := by rw [effectiveAddress_frame]
@[simp] theorem effectiveAddress_cart : (effectiveAddress flagged op s).2.cart = s.cart := by rw [effectiveAddress_frame]
@[simp] theorem effectiveAddress_region (k : Word) : (effectiveAddress flagged op s).2.region k = s.region k := by
  rw [effectiveAddress_frame]; rfl
end effectiveAddress

section readOperand
variable (flagged : Bool) (op : Operand) (s : State)
@[simp] theorem readOperand_a : (readOperand flagged op s).2.a = s.a := by rw [readOperand_frame]
@[simp] theorem readOperand_x : (readOperand flagged op s).2.x = s.x := by rw [readOperand_frame]
@[simp] theorem readOperand_y : (readOperand flagged op s).2.y = s.y := by rw [readOperand_frame]
@[simp] theorem readOperand_sp : (readOperand flagged op s).2.sp = s.sp := by rw [readOperand_frame]
@[simp] theorem readOperand_pc : (readOperand flagged op s).2.pc = s.pc := by rw [readOperand_frame]
@[simp] theorem readOperand_p : (readOperand flagged op s).2.p = s.p := by rw [readOperand_frame]
@[simp] theorem readOperand_nmiPending : (readOperand flagged op s).2.nmiPending = s.nmiPending := by rw [readOperand_frame]
@[simp] theorem readOperand_irqPending : (readOperand flagged op s).2.irqPending = s.irqPending := by rw [readOperand_frame]
@[simp] theorem readOperand_halted : (readOperand flagged op s).2.halted = s.halted := by rw [readOperand_frame]
@[simp] theorem readOperand_refused : (readOperand flagged op s).2.refused = s.refused := by rw [readOperand_frame]
@[simp] theorem readOperand_faulted : (readOperand flagged op s).2.faulted = s.faulted := by rw [readOperand_frame]
@[simp] theorem readOperand_wram : (readOperand flagged op s).2.wram = s.wram := by rw [readOperand_frame]
@[simp] theorem readOperand_apu : (readOperand flagged op s).2.apu = s.apu := by rw [readOperand_frame]
@[simp] theorem readOperand_ram : (readOperand flagged op s).2.ram = s.ram := by rw [readOperand_frame]
@[simp] theorem readOperand_buttons : (readOperand flagged op s).2.buttons = s.buttons := by rw [readOperand_frame]
@[simp] theorem readOperand_params : (readOperand flagged op s).2.params = s.params := by rw [readOperand_frame]
@[simp] theorem readOperand_cart : (readOperand flagged op s).2.cart = s.cart := by rw [readOperand_frame]
@[simp] theorem readOperand_region (k : Word) : (readOperand flagged op s).2.region k = s.region k := by
  rw [readOperand_frame]; rfl
end readOperand

/-! ### Writes that raise -/

theorem nesRegion_not_prg {size : PrgSize} {a : Nat} (h : a < 0x8000) (off : Nat) : nesRegion size a ≠ .prg off := by
  simp only [nesRegion]
  rw [if_pos h]
  repeat' refine ite_ok (Ok := fun r : Region => r ≠ .prg off) (fun _ => by simp) ?_
  simp

theorem writeFaults_eq (k : Word) (s : State) : writeFaults k s = true ↔ raisesBusError s k := by
  unfold writeFaults raisesBusError State.region
  cases s.params.busVariant
  · simp only [true_and]
    by_cases h : 0x8000 ≤ k.toNat
    · rw [nesRegion_prg h]
      simp [h]
    · have hn := nesRegion_not_prg (size := s.cart.prgSize) (Nat.lt_of_not_le h)
      generalize nesRegion s.cart.prgSize k.toNat = r at hn
      cases r
      case prg off => exact absurd rfl (hn off)
      all_goals simp [h]
  · simp

theorem raisesBusError_effectiveAddress (flagged : Bool) (op : Operand) (s : State) (k : Word) :
    raisesBusError (effectiveAddress flagged op s).2 k ↔ raisesBusError s k := by
  unfold raisesBusError
  rw [effectiveAddress_params]

theorem busWrite_ok {k : Word} {v : Byte} {s : State} (h : ¬ raisesBusError s k) :
    busWrite k v s = some (busStore k v s) := by
  rw [busWrite, if_neg (fun hc => h ((writeFaults_eq k s).1 hc))]

theorem busWrite_raises {k : Word} {v : Byte} {s : State} (h : raisesBusError s k) : busWrite k v s = none := by
  rw [busWrite, if_pos ((writeFaults_eq k s).2 h)]

/-! ### PC advance -/

theorem advancePc_frame (len : Nat) (snap : Word) (tr : Bool) (s : State) :
    advancePc len snap tr s = s.setPc (advancePc len snap tr s).pc := by
  unfold advancePc
  split <;> simp only <;> split <;> rfl

/-- A handler that leaves PC alone: PC goes past the operand bytes, under either rule. -/
theorem advancePc_stay {len : Nat} {snap : Word} {s : State} (h : s.pc = snap) :
    advancePc len snap false s = s.setPc (snap + BitVec.ofNat 16 (len - 1)) := by
  unfold advancePc
  subst h
  cases s.params.pcAdvanceRule <;> simp

/-- A handler that transfers to `t` ends at `landingPc`. -/
theorem advancePc_jump (len : Nat) (t : Word) (s u : State) (h : u.params = s.params) :
    advancePc len s.pc true (u.setPc t) = u.setPc (landingPc s len t) := by
  unfold advancePc landingPc
  simp only [State.setPc_params, State.setPc_pc, h]
  cases s.params.pcAdvanceRule
  · simp
  · by_cases ht : t = s.pc
    · simp [ht]; rfl
    · simp [ht]

/-! ### The stack -/

theorem push8_eq (v : Byte) (s : State) : push8 v s = (busStore (stackAddress s.sp) v s).setSp (s.sp - 1) := rfl

/-- A pop reads plain storage, and moves SP up. -/
theorem pop8_eq (s : State) : pop8 s = ((busRead (stackAddress (s.sp + 1)) s).1, s.setSp (s.sp + 1)) := by
  rw [pop8, busRead_setSp, busRead_stack]

/-- The two bytes of a pushed word: the high byte at SP, the low byte below it. -/
theorem push16_eq (v : Word) (s : State) : push16 v s =
    (busStore (stackAddress (s.sp - 1)) (lo8 v) (busStore (stackAddress s.sp) (hi8 v) s)).setSp (s.sp - 2) := by
  simp only [push16, push8_eq, State.setSp_sp, busStore_setSp, BitVec.sub_sub]
  rfl

theorem pop16_eq (s : State) : pop16 s =
    (w16 (busRead (stackAddress (s.sp + 2)) s).1 (busRead (stackAddress (s.sp + 1)) s).1, s.setSp (s.sp + 2)) := by
  simp only [pop16, pop8_eq, State.setSp_sp, busRead_setSp_fst, BitVec.add_assoc]
  rfl

/-- The byte at the stack address after it was written, in a canonical memory. -/
theorem busRead_busStore_stack {s : State} (h1 : s.wram.wf = true) (h2 : s.ram.wf = true) (sp v : Byte) :
    (busRead (stackAddress sp) (busStore (stackAddress sp) v s)).1 = v := by
  have hr := region_stack s sp
  rw [busStore_stack]
  unfold busRead
  cases hb : s.params.busVariant <;> rw [hb] at hr <;> simp only at hr ⊢
  · rw [State.region_setWram, hr]
    exact Memory.read_write_same h1 _ _
  · rw [State.region_setRam, hr]
    exact Memory.read_write_same h2 _ _

/-! ### Interrupts -/

/-- Taking an interrupt: three bytes on the stack, P.I, and PC from the vector. -/
theorem takeInterrupt_eq {vector : Word} (hv : 0x8000 ≤ vector.toNat) (hv' : vector.toNat < 0xFFFF) (ret : Word)
    (brk : Bool) (s : State) :
    let u := busStore (stackAddress (s.sp - 2)) (pack s.p brk)
      (busStore (stackAddress (s.sp - 1)) (lo8 ret) (busStore (stackAddress s.sp) (hi8 ret) s))
    takeInterrupt ret brk vector s = { u with
      sp := s.sp - 3, p := { s.p with i := true }, pc := (read16 vector u).1 } := by
  have h3 : s.sp - 2 - 1 = s.sp - 3 := by rw [BitVec.sub_sub]; rfl
  simp only [takeInterrupt, push16_eq, push8_eq]
  rw [read16_prg _ hv hv']
  simp only [read16, busRead_setFlags_fst, busRead_setFlags_snd, State.setSp_sp, busStore_setSp, busRead_setSp_fst,
    busRead_setSp_snd, h3]
  simp only [State.setPc, State.setFlags, State.setSp, busStore_p]

/-- Returning from an interrupt: six flags, then PC; B stays. -/
theorem returnFromInterrupt_eq (s : State) : returnFromInterrupt s = { s with
    p := unpack (busRead (stackAddress (s.sp + 1)) s).1 s.p, sp := s.sp + 3
    pc := w16 (busRead (stackAddress (s.sp + 3)) s).1 (busRead (stackAddress (s.sp + 2)) s).1 } := by
  simp only [returnFromInterrupt, pop8_eq, pop16_eq, State.setFlags_sp, State.setSp_sp, busRead_setFlags_fst,
    busRead_setSp_fst, BitVec.add_assoc]
  rfl

/-! ### The access classes -/

/-- An Implied instruction that leaves PC alone: its base cycles, then its effect. -/
theorem impliedInstr_eq (base : Nat) {f : State → State} (hf : ∀ t, (f t).pc = t.pc) (s : State) :
    impliedInstr base f s = .next (f (s.addCycles base)) := by
  have h := hf (s.addCycles base)
  simp only [State.addCycles_pc] at h
  rw [impliedInstr, advancePc_stay h]
  simp only [State.setPc, ← h, Nat.sub_self, BitVec.add_zero]

/-- A NOP without a memory operand: base cycles, and PC past the operand byte. -/
theorem skipInstr_eq (len base : Nat) (s : State) :
    skipInstr len base s = .next ((s.addCycles base).setPc (s.pc + BitVec.ofNat 16 (len - 1))) := by
  rw [skipInstr, advancePc_stay (snap := s.pc) (s := s.addCycles base) rfl]

/-- Where JMP indirect reads its high byte, in the words of R97. -/
theorem indirectHigh_eq (k : Word) : indirectHigh k = (k &&& 0xFF00) ||| ((k + 1) &&& 0x00FF) := by
  have h : lo8 k + 1 = (k + 1).setWidth 8 := by rw [BitVec.setWidth_add _ _ (by decide)]; rfl
  apply BitVec.eq_of_getLsbD_eq
  intro i hi
  rw [indirectHigh, w16, h, hi8, BitVec.getLsbD_append, BitVec.getLsbD_or, BitVec.getLsbD_and, BitVec.getLsbD_and,
    BitVec.getLsbD_setWidth, BitVec.getLsbD_setWidth, BitVec.getLsbD_ushiftRight]
  have h1 : ∀ i < 16, (0xFF00 : Word).getLsbD i = !decide (i < 8) := by decide
  have h2 : ∀ i < 16, (0x00FF : Word).getLsbD i = decide (i < 8) := by decide
  rw [h1 i hi, h2 i hi]
  by_cases hc : i < 8
  · simp [hc]
  · simp [hc, show i - 8 < 8 by omega, show 8 + (i - 8) = i by omega]

/-- A control transfer: PC is where `f` puts it, seen by the PC advance rule. -/
theorem transferInstr_eq (len base : Nat) {f : State → State} {u : State} {t : Word} {s : State}
    (hf : f (s.addCycles base) = u.setPc t) (hu : u.params = s.params) :
    transferInstr len base f s = .next (u.setPc (landingPc s len t)) := by
  rw [transferInstr, hf, advancePc_jump len t s u hu]

/-- A one-byte control transfer ends at its target under either rule. -/
theorem landingPc_one (s : State) (t : Word) : landingPc s 1 t = t := by
  unfold landingPc
  split
  · next h => rw [h.2, Nat.sub_self, BitVec.add_zero]
  · rfl

/-- The read class: one read, the effect, and PC past the operand bytes. -/
theorem readInstr_eq (base : Nat) (flagged : Bool) (op : Operand) {f : Byte → State → State}
    (hf : ∀ m t, (f m t).pc = t.pc) (s : State) :
    readInstr base flagged op f s =
      .next ((f (readOperand flagged op (s.addCycles base)).1 (readOperand flagged op (s.addCycles base)).2).setPc
        (s.pc + BitVec.ofNat 16 (op.mode.length - 1))) := by
  rw [readInstr, advancePc_stay (by rw [hf]; simp)]

/-- The write class, where the write does not raise. -/
theorem writeInstr_eq (base : Nat) (op : Operand) (v : Byte) {s : State}
    (h : ¬ raisesBusError s (effectiveAddress false op (s.addCycles base)).1) :
    writeInstr base op v s =
      .next ((busStore (effectiveAddress false op (s.addCycles base)).1 v
        (effectiveAddress false op (s.addCycles base)).2).setPc (s.pc + BitVec.ofNat 16 (op.mode.length - 1))) := by
  have h' : ¬ raisesBusError (effectiveAddress false op (s.addCycles base)).2
      (effectiveAddress false op (s.addCycles base)).1 := by
    rw [raisesBusError_effectiveAddress]; exact h
  simp only [writeInstr, busWrite_ok h']
  rw [advancePc_stay (by simp)]

theorem writeInstr_raises (base : Nat) (op : Operand) (v : Byte) {s : State}
    (h : raisesBusError s (effectiveAddress false op (s.addCycles base)).1) :
    writeInstr base op v s = raiseBusError (effectiveAddress false op (s.addCycles base)).1
      (effectiveAddress false op (s.addCycles base)).2 := by
  have h' : raisesBusError (effectiveAddress false op (s.addCycles base)).2
      (effectiveAddress false op (s.addCycles base)).1 := by
    rw [raisesBusError_effectiveAddress]; exact h
  simp only [writeInstr, busWrite_raises h']

/-- The read-modify-write class, where the write does not raise. -/
theorem rmwInstr_eq (base : Nat) (op : Operand) (f : Byte → Flags → Byte × Flags) {post : Byte → State → State}
    (hp : ∀ m t, (post m t).pc = t.pc) {s : State}
    (h : ¬ raisesBusError s (effectiveAddress false op (s.addCycles base)).1) :
    rmwInstr base op f post s =
      (let e := effectiveAddress false op (s.addCycles base)
       let m := busRead e.1 e.2
       let r := f m.1 s.p
       .next ((post r.1 ((busStore e.1 r.1 m.2).setFlags r.2)).setPc
         (s.pc + BitVec.ofNat 16 (op.mode.length - 1)))) := by
  have h' : ¬ raisesBusError (busRead (effectiveAddress false op (s.addCycles base)).1
      (effectiveAddress false op (s.addCycles base)).2).2 (effectiveAddress false op (s.addCycles base)).1 := by
    unfold raisesBusError at h ⊢
    rw [busRead_params, effectiveAddress_params]; exact h
  simp only [rmwInstr, busWrite_ok h', busRead_p, effectiveAddress_p, State.addCycles_p]
  rw [advancePc_stay (by rw [hp]; simp)]

/-- A read-modify-write whose write raises: its read has happened, and nothing else. -/
theorem rmwInstr_raises (base : Nat) (op : Operand) (f : Byte → Flags → Byte × Flags) (post : Byte → State → State)
    {s : State} (h : raisesBusError s (effectiveAddress false op (s.addCycles base)).1) :
    rmwInstr base op f post s = raiseBusError (effectiveAddress false op (s.addCycles base)).1
      (effectiveAddress false op (s.addCycles base)).2 := by
  have h' : raisesBusError (busRead (effectiveAddress false op (s.addCycles base)).1
      (effectiveAddress false op (s.addCycles base)).2).2 (effectiveAddress false op (s.addCycles base)).1 := by
    unfold raisesBusError at h ⊢
    rw [busRead_params, effectiveAddress_params]; exact h
  simp only [rmwInstr, busWrite_raises h']
  rw [busRead_prg _ h.2.2]

end Sys2Proof.Machine
end

