-- ==== Sys2Proof/Laws/PerInstr.lean ====
section
/-! SUPPORT. Per instruction: its row of the opcode table agrees with its opcode byte, operand and length. -/

namespace Sys2Proof.Laws.RowMatches

/-- The instruction's row carries its opcode byte, its mode is the operand's, and its encoding has the row's length
(R64, R67, R68). -/
def Statement (i : Instr) : Prop :=
  ∃ d, i.descriptor = some d ∧ d.code = i.opcode ∧
    i.operand.map Operand.mode = (if d.mode = .implied then none else some d.mode) ∧ (encode i).length = d.length

theorem of_row {i : Instr} (op : Byte) (d : Descriptor) (h1 : i.opcode = op) (h2 : descriptorAt op = some d)
    (h3 : d.code = op) (h4 : i.operand.map Operand.mode = (if d.mode = .implied then none else some d.mode))
    (h5 : (encode i).length = d.length) : Statement i :=
  ⟨d, by rw [Instr.descriptor, h1, h2], h3.trans h1.symm, h4, h5⟩


theorem oraIzx (b : Byte) : Statement (.oraIzx b) := of_row 0x01 _ rfl rfl rfl rfl rfl
theorem sloIzx (b : Byte) : Statement (.sloIzx b) := of_row 0x03 _ rfl rfl rfl rfl rfl
theorem nopZp04 (b : Byte) : Statement (.nopZp04 b) := of_row 0x04 _ rfl rfl rfl rfl rfl
theorem oraZp (b : Byte) : Statement (.oraZp b) := of_row 0x05 _ rfl rfl rfl rfl rfl
theorem aslZp (b : Byte) : Statement (.aslZp b) := of_row 0x06 _ rfl rfl rfl rfl rfl
theorem sloZp (b : Byte) : Statement (.sloZp b) := of_row 0x07 _ rfl rfl rfl rfl rfl
theorem oraImm (b : Byte) : Statement (.oraImm b) := of_row 0x09 _ rfl rfl rfl rfl rfl
theorem ancImm0B (b : Byte) : Statement (.ancImm0B b) := of_row 0x0B _ rfl rfl rfl rfl rfl
theorem nopAbs (w : Word) : Statement (.nopAbs w) := of_row 0x0C _ rfl rfl rfl rfl rfl
theorem oraAbs (w : Word) : Statement (.oraAbs w) := of_row 0x0D _ rfl rfl rfl rfl rfl
theorem aslAbs (w : Word) : Statement (.aslAbs w) := of_row 0x0E _ rfl rfl rfl rfl rfl
theorem sloAbs (w : Word) : Statement (.sloAbs w) := of_row 0x0F _ rfl rfl rfl rfl rfl
theorem bpl (off : Int) : Statement (.bpl off) := of_row 0x10 _ rfl rfl rfl rfl rfl
theorem oraIzy (b : Byte) : Statement (.oraIzy b) := of_row 0x11 _ rfl rfl rfl rfl rfl
theorem sloIzy (b : Byte) : Statement (.sloIzy b) := of_row 0x13 _ rfl rfl rfl rfl rfl
theorem nopZpx14 (b : Byte) : Statement (.nopZpx14 b) := of_row 0x14 _ rfl rfl rfl rfl rfl
theorem oraZpx (b : Byte) : Statement (.oraZpx b) := of_row 0x15 _ rfl rfl rfl rfl rfl
theorem aslZpx (b : Byte) : Statement (.aslZpx b) := of_row 0x16 _ rfl rfl rfl rfl rfl
theorem sloZpx (b : Byte) : Statement (.sloZpx b) := of_row 0x17 _ rfl rfl rfl rfl rfl
theorem oraAby (w : Word) : Statement (.oraAby w) := of_row 0x19 _ rfl rfl rfl rfl rfl
theorem sloAby (w : Word) : Statement (.sloAby w) := of_row 0x1B _ rfl rfl rfl rfl rfl
theorem nopAbx1C (w : Word) : Statement (.nopAbx1C w) := of_row 0x1C _ rfl rfl rfl rfl rfl
theorem oraAbx (w : Word) : Statement (.oraAbx w) := of_row 0x1D _ rfl rfl rfl rfl rfl
theorem aslAbx (w : Word) : Statement (.aslAbx w) := of_row 0x1E _ rfl rfl rfl rfl rfl
theorem sloAbx (w : Word) : Statement (.sloAbx w) := of_row 0x1F _ rfl rfl rfl rfl rfl
theorem jsr (w : Word) : Statement (.jsr w) := of_row 0x20 _ rfl rfl rfl rfl rfl
theorem andIzx (b : Byte) : Statement (.andIzx b) := of_row 0x21 _ rfl rfl rfl rfl rfl
theorem rlaIzx (b : Byte) : Statement (.rlaIzx b) := of_row 0x23 _ rfl rfl rfl rfl rfl
theorem bitZp (b : Byte) : Statement (.bitZp b) := of_row 0x24 _ rfl rfl rfl rfl rfl
theorem andZp (b : Byte) : Statement (.andZp b) := of_row 0x25 _ rfl rfl rfl rfl rfl
theorem rolZp (b : Byte) : Statement (.rolZp b) := of_row 0x26 _ rfl rfl rfl rfl rfl
theorem rlaZp (b : Byte) : Statement (.rlaZp b) := of_row 0x27 _ rfl rfl rfl rfl rfl
theorem andImm (b : Byte) : Statement (.andImm b) := of_row 0x29 _ rfl rfl rfl rfl rfl
theorem ancImm2B (b : Byte) : Statement (.ancImm2B b) := of_row 0x2B _ rfl rfl rfl rfl rfl
theorem bitAbs (w : Word) : Statement (.bitAbs w) := of_row 0x2C _ rfl rfl rfl rfl rfl
theorem andAbs (w : Word) : Statement (.andAbs w) := of_row 0x2D _ rfl rfl rfl rfl rfl
theorem rolAbs (w : Word) : Statement (.rolAbs w) := of_row 0x2E _ rfl rfl rfl rfl rfl
theorem rlaAbs (w : Word) : Statement (.rlaAbs w) := of_row 0x2F _ rfl rfl rfl rfl rfl
theorem bmi (off : Int) : Statement (.bmi off) := of_row 0x30 _ rfl rfl rfl rfl rfl
theorem andIzy (b : Byte) : Statement (.andIzy b) := of_row 0x31 _ rfl rfl rfl rfl rfl
theorem rlaIzy (b : Byte) : Statement (.rlaIzy b) := of_row 0x33 _ rfl rfl rfl rfl rfl
theorem nopZpx34 (b : Byte) : Statement (.nopZpx34 b) := of_row 0x34 _ rfl rfl rfl rfl rfl
theorem andZpx (b : Byte) : Statement (.andZpx b) := of_row 0x35 _ rfl rfl rfl rfl rfl
theorem rolZpx (b : Byte) : Statement (.rolZpx b) := of_row 0x36 _ rfl rfl rfl rfl rfl
theorem rlaZpx (b : Byte) : Statement (.rlaZpx b) := of_row 0x37 _ rfl rfl rfl rfl rfl
theorem andAby (w : Word) : Statement (.andAby w) := of_row 0x39 _ rfl rfl rfl rfl rfl
theorem rlaAby (w : Word) : Statement (.rlaAby w) := of_row 0x3B _ rfl rfl rfl rfl rfl
theorem nopAbx3C (w : Word) : Statement (.nopAbx3C w) := of_row 0x3C _ rfl rfl rfl rfl rfl
theorem andAbx (w : Word) : Statement (.andAbx w) := of_row 0x3D _ rfl rfl rfl rfl rfl
theorem rolAbx (w : Word) : Statement (.rolAbx w) := of_row 0x3E _ rfl rfl rfl rfl rfl
theorem rlaAbx (w : Word) : Statement (.rlaAbx w) := of_row 0x3F _ rfl rfl rfl rfl rfl
theorem eorIzx (b : Byte) : Statement (.eorIzx b) := of_row 0x41 _ rfl rfl rfl rfl rfl
theorem sreIzx (b : Byte) : Statement (.sreIzx b) := of_row 0x43 _ rfl rfl rfl rfl rfl
theorem nopZp44 (b : Byte) : Statement (.nopZp44 b) := of_row 0x44 _ rfl rfl rfl rfl rfl
theorem eorZp (b : Byte) : Statement (.eorZp b) := of_row 0x45 _ rfl rfl rfl rfl rfl
theorem lsrZp (b : Byte) : Statement (.lsrZp b) := of_row 0x46 _ rfl rfl rfl rfl rfl
theorem sreZp (b : Byte) : Statement (.sreZp b) := of_row 0x47 _ rfl rfl rfl rfl rfl
theorem eorImm (b : Byte) : Statement (.eorImm b) := of_row 0x49 _ rfl rfl rfl rfl rfl
theorem alr (b : Byte) : Statement (.alr b) := of_row 0x4B _ rfl rfl rfl rfl rfl
theorem jmpAbs (w : Word) : Statement (.jmpAbs w) := of_row 0x4C _ rfl rfl rfl rfl rfl
theorem eorAbs (w : Word) : Statement (.eorAbs w) := of_row 0x4D _ rfl rfl rfl rfl rfl
theorem lsrAbs (w : Word) : Statement (.lsrAbs w) := of_row 0x4E _ rfl rfl rfl rfl rfl
theorem sreAbs (w : Word) : Statement (.sreAbs w) := of_row 0x4F _ rfl rfl rfl rfl rfl
theorem bvc (off : Int) : Statement (.bvc off) := of_row 0x50 _ rfl rfl rfl rfl rfl
theorem eorIzy (b : Byte) : Statement (.eorIzy b) := of_row 0x51 _ rfl rfl rfl rfl rfl
theorem sreIzy (b : Byte) : Statement (.sreIzy b) := of_row 0x53 _ rfl rfl rfl rfl rfl
theorem nopZpx54 (b : Byte) : Statement (.nopZpx54 b) := of_row 0x54 _ rfl rfl rfl rfl rfl
theorem eorZpx (b : Byte) : Statement (.eorZpx b) := of_row 0x55 _ rfl rfl rfl rfl rfl
theorem lsrZpx (b : Byte) : Statement (.lsrZpx b) := of_row 0x56 _ rfl rfl rfl rfl rfl
theorem sreZpx (b : Byte) : Statement (.sreZpx b) := of_row 0x57 _ rfl rfl rfl rfl rfl
theorem eorAby (w : Word) : Statement (.eorAby w) := of_row 0x59 _ rfl rfl rfl rfl rfl
theorem sreAby (w : Word) : Statement (.sreAby w) := of_row 0x5B _ rfl rfl rfl rfl rfl
theorem nopAbx5C (w : Word) : Statement (.nopAbx5C w) := of_row 0x5C _ rfl rfl rfl rfl rfl
theorem eorAbx (w : Word) : Statement (.eorAbx w) := of_row 0x5D _ rfl rfl rfl rfl rfl
theorem lsrAbx (w : Word) : Statement (.lsrAbx w) := of_row 0x5E _ rfl rfl rfl rfl rfl
theorem sreAbx (w : Word) : Statement (.sreAbx w) := of_row 0x5F _ rfl rfl rfl rfl rfl
theorem adcIzx (b : Byte) : Statement (.adcIzx b) := of_row 0x61 _ rfl rfl rfl rfl rfl
theorem rraIzx (b : Byte) : Statement (.rraIzx b) := of_row 0x63 _ rfl rfl rfl rfl rfl
theorem nopZp64 (b : Byte) : Statement (.nopZp64 b) := of_row 0x64 _ rfl rfl rfl rfl rfl
theorem adcZp (b : Byte) : Statement (.adcZp b) := of_row 0x65 _ rfl rfl rfl rfl rfl
theorem rorZp (b : Byte) : Statement (.rorZp b) := of_row 0x66 _ rfl rfl rfl rfl rfl
theorem rraZp (b : Byte) : Statement (.rraZp b) := of_row 0x67 _ rfl rfl rfl rfl rfl
theorem adcImm (b : Byte) : Statement (.adcImm b) := of_row 0x69 _ rfl rfl rfl rfl rfl
theorem arr (b : Byte) : Statement (.arr b) := of_row 0x6B _ rfl rfl rfl rfl rfl
theorem jmpInd (w : Word) : Statement (.jmpInd w) := of_row 0x6C _ rfl rfl rfl rfl rfl
theorem adcAbs (w : Word) : Statement (.adcAbs w) := of_row 0x6D _ rfl rfl rfl rfl rfl
theorem rorAbs (w : Word) : Statement (.rorAbs w) := of_row 0x6E _ rfl rfl rfl rfl rfl
theorem rraAbs (w : Word) : Statement (.rraAbs w) := of_row 0x6F _ rfl rfl rfl rfl rfl
theorem bvs (off : Int) : Statement (.bvs off) := of_row 0x70 _ rfl rfl rfl rfl rfl
theorem adcIzy (b : Byte) : Statement (.adcIzy b) := of_row 0x71 _ rfl rfl rfl rfl rfl
theorem rraIzy (b : Byte) : Statement (.rraIzy b) := of_row 0x73 _ rfl rfl rfl rfl rfl
theorem nopZpx74 (b : Byte) : Statement (.nopZpx74 b) := of_row 0x74 _ rfl rfl rfl rfl rfl
theorem adcZpx (b : Byte) : Statement (.adcZpx b) := of_row 0x75 _ rfl rfl rfl rfl rfl
theorem rorZpx (b : Byte) : Statement (.rorZpx b) := of_row 0x76 _ rfl rfl rfl rfl rfl
theorem rraZpx (b : Byte) : Statement (.rraZpx b) := of_row 0x77 _ rfl rfl rfl rfl rfl
theorem adcAby (w : Word) : Statement (.adcAby w) := of_row 0x79 _ rfl rfl rfl rfl rfl
theorem rraAby (w : Word) : Statement (.rraAby w) := of_row 0x7B _ rfl rfl rfl rfl rfl
theorem nopAbx7C (w : Word) : Statement (.nopAbx7C w) := of_row 0x7C _ rfl rfl rfl rfl rfl
theorem adcAbx (w : Word) : Statement (.adcAbx w) := of_row 0x7D _ rfl rfl rfl rfl rfl
theorem rorAbx (w : Word) : Statement (.rorAbx w) := of_row 0x7E _ rfl rfl rfl rfl rfl
theorem rraAbx (w : Word) : Statement (.rraAbx w) := of_row 0x7F _ rfl rfl rfl rfl rfl
theorem nopImm80 (b : Byte) : Statement (.nopImm80 b) := of_row 0x80 _ rfl rfl rfl rfl rfl
theorem staIzx (b : Byte) : Statement (.staIzx b) := of_row 0x81 _ rfl rfl rfl rfl rfl
theorem nopImm82 (b : Byte) : Statement (.nopImm82 b) := of_row 0x82 _ rfl rfl rfl rfl rfl
theorem saxIzx (b : Byte) : Statement (.saxIzx b) := of_row 0x83 _ rfl rfl rfl rfl rfl
theorem styZp (b : Byte) : Statement (.styZp b) := of_row 0x84 _ rfl rfl rfl rfl rfl
theorem staZp (b : Byte) : Statement (.staZp b) := of_row 0x85 _ rfl rfl rfl rfl rfl
theorem stxZp (b : Byte) : Statement (.stxZp b) := of_row 0x86 _ rfl rfl rfl rfl rfl
theorem saxZp (b : Byte) : Statement (.saxZp b) := of_row 0x87 _ rfl rfl rfl rfl rfl
theorem nopImm89 (b : Byte) : Statement (.nopImm89 b) := of_row 0x89 _ rfl rfl rfl rfl rfl
theorem ane (b : Byte) : Statement (.ane b) := of_row 0x8B _ rfl rfl rfl rfl rfl
theorem styAbs (w : Word) : Statement (.styAbs w) := of_row 0x8C _ rfl rfl rfl rfl rfl
theorem staAbs (w : Word) : Statement (.staAbs w) := of_row 0x8D _ rfl rfl rfl rfl rfl
theorem stxAbs (w : Word) : Statement (.stxAbs w) := of_row 0x8E _ rfl rfl rfl rfl rfl
theorem saxAbs (w : Word) : Statement (.saxAbs w) := of_row 0x8F _ rfl rfl rfl rfl rfl
theorem bcc (off : Int) : Statement (.bcc off) := of_row 0x90 _ rfl rfl rfl rfl rfl
theorem staIzy (b : Byte) : Statement (.staIzy b) := of_row 0x91 _ rfl rfl rfl rfl rfl
theorem shaIzy (b : Byte) : Statement (.shaIzy b) := of_row 0x93 _ rfl rfl rfl rfl rfl
theorem styZpx (b : Byte) : Statement (.styZpx b) := of_row 0x94 _ rfl rfl rfl rfl rfl
theorem staZpx (b : Byte) : Statement (.staZpx b) := of_row 0x95 _ rfl rfl rfl rfl rfl
theorem stxZpy (b : Byte) : Statement (.stxZpy b) := of_row 0x96 _ rfl rfl rfl rfl rfl
theorem saxZpy (b : Byte) : Statement (.saxZpy b) := of_row 0x97 _ rfl rfl rfl rfl rfl
theorem staAby (w : Word) : Statement (.staAby w) := of_row 0x99 _ rfl rfl rfl rfl rfl
theorem tas (w : Word) : Statement (.tas w) := of_row 0x9B _ rfl rfl rfl rfl rfl
theorem shy (w : Word) : Statement (.shy w) := of_row 0x9C _ rfl rfl rfl rfl rfl
theorem staAbx (w : Word) : Statement (.staAbx w) := of_row 0x9D _ rfl rfl rfl rfl rfl
theorem shx (w : Word) : Statement (.shx w) := of_row 0x9E _ rfl rfl rfl rfl rfl
theorem shaAby (w : Word) : Statement (.shaAby w) := of_row 0x9F _ rfl rfl rfl rfl rfl
theorem ldyImm (b : Byte) : Statement (.ldyImm b) := of_row 0xA0 _ rfl rfl rfl rfl rfl
theorem ldaIzx (b : Byte) : Statement (.ldaIzx b) := of_row 0xA1 _ rfl rfl rfl rfl rfl
theorem ldxImm (b : Byte) : Statement (.ldxImm b) := of_row 0xA2 _ rfl rfl rfl rfl rfl
theorem laxIzx (b : Byte) : Statement (.laxIzx b) := of_row 0xA3 _ rfl rfl rfl rfl rfl
theorem ldyZp (b : Byte) : Statement (.ldyZp b) := of_row 0xA4 _ rfl rfl rfl rfl rfl
theorem ldaZp (b : Byte) : Statement (.ldaZp b) := of_row 0xA5 _ rfl rfl rfl rfl rfl
theorem ldxZp (b : Byte) : Statement (.ldxZp b) := of_row 0xA6 _ rfl rfl rfl rfl rfl
theorem laxZp (b : Byte) : Statement (.laxZp b) := of_row 0xA7 _ rfl rfl rfl rfl rfl
theorem ldaImm (b : Byte) : Statement (.ldaImm b) := of_row 0xA9 _ rfl rfl rfl rfl rfl
theorem lxa (b : Byte) : Statement (.lxa b) := of_row 0xAB _ rfl rfl rfl rfl rfl
theorem ldyAbs (w : Word) : Statement (.ldyAbs w) := of_row 0xAC _ rfl rfl rfl rfl rfl
theorem ldaAbs (w : Word) : Statement (.ldaAbs w) := of_row 0xAD _ rfl rfl rfl rfl rfl
theorem ldxAbs (w : Word) : Statement (.ldxAbs w) := of_row 0xAE _ rfl rfl rfl rfl rfl
theorem laxAbs (w : Word) : Statement (.laxAbs w) := of_row 0xAF _ rfl rfl rfl rfl rfl
theorem bcs (off : Int) : Statement (.bcs off) := of_row 0xB0 _ rfl rfl rfl rfl rfl
theorem ldaIzy (b : Byte) : Statement (.ldaIzy b) := of_row 0xB1 _ rfl rfl rfl rfl rfl
theorem laxIzy (b : Byte) : Statement (.laxIzy b) := of_row 0xB3 _ rfl rfl rfl rfl rfl
theorem ldyZpx (b : Byte) : Statement (.ldyZpx b) := of_row 0xB4 _ rfl rfl rfl rfl rfl
theorem ldaZpx (b : Byte) : Statement (.ldaZpx b) := of_row 0xB5 _ rfl rfl rfl rfl rfl
theorem ldxZpy (b : Byte) : Statement (.ldxZpy b) := of_row 0xB6 _ rfl rfl rfl rfl rfl
theorem laxZpy (b : Byte) : Statement (.laxZpy b) := of_row 0xB7 _ rfl rfl rfl rfl rfl
theorem ldaAby (w : Word) : Statement (.ldaAby w) := of_row 0xB9 _ rfl rfl rfl rfl rfl
theorem las (w : Word) : Statement (.las w) := of_row 0xBB _ rfl rfl rfl rfl rfl
theorem ldyAbx (w : Word) : Statement (.ldyAbx w) := of_row 0xBC _ rfl rfl rfl rfl rfl
theorem ldaAbx (w : Word) : Statement (.ldaAbx w) := of_row 0xBD _ rfl rfl rfl rfl rfl
theorem ldxAby (w : Word) : Statement (.ldxAby w) := of_row 0xBE _ rfl rfl rfl rfl rfl
theorem laxAby (w : Word) : Statement (.laxAby w) := of_row 0xBF _ rfl rfl rfl rfl rfl
theorem cpyImm (b : Byte) : Statement (.cpyImm b) := of_row 0xC0 _ rfl rfl rfl rfl rfl
theorem cmpIzx (b : Byte) : Statement (.cmpIzx b) := of_row 0xC1 _ rfl rfl rfl rfl rfl
theorem nopImmC2 (b : Byte) : Statement (.nopImmC2 b) := of_row 0xC2 _ rfl rfl rfl rfl rfl
theorem dcpIzx (b : Byte) : Statement (.dcpIzx b) := of_row 0xC3 _ rfl rfl rfl rfl rfl
theorem cpyZp (b : Byte) : Statement (.cpyZp b) := of_row 0xC4 _ rfl rfl rfl rfl rfl
theorem cmpZp (b : Byte) : Statement (.cmpZp b) := of_row 0xC5 _ rfl rfl rfl rfl rfl
theorem decZp (b : Byte) : Statement (.decZp b) := of_row 0xC6 _ rfl rfl rfl rfl rfl
theorem dcpZp (b : Byte) : Statement (.dcpZp b) := of_row 0xC7 _ rfl rfl rfl rfl rfl
theorem cmpImm (b : Byte) : Statement (.cmpImm b) := of_row 0xC9 _ rfl rfl rfl rfl rfl
theorem sbx (b : Byte) : Statement (.sbx b) := of_row 0xCB _ rfl rfl rfl rfl rfl
theorem cpyAbs (w : Word) : Statement (.cpyAbs w) := of_row 0xCC _ rfl rfl rfl rfl rfl
theorem cmpAbs (w : Word) : Statement (.cmpAbs w) := of_row 0xCD _ rfl rfl rfl rfl rfl
theorem decAbs (w : Word) : Statement (.decAbs w) := of_row 0xCE _ rfl rfl rfl rfl rfl
theorem dcpAbs (w : Word) : Statement (.dcpAbs w) := of_row 0xCF _ rfl rfl rfl rfl rfl
theorem bne (off : Int) : Statement (.bne off) := of_row 0xD0 _ rfl rfl rfl rfl rfl
theorem cmpIzy (b : Byte) : Statement (.cmpIzy b) := of_row 0xD1 _ rfl rfl rfl rfl rfl
theorem dcpIzy (b : Byte) : Statement (.dcpIzy b) := of_row 0xD3 _ rfl rfl rfl rfl rfl
theorem nopZpxD4 (b : Byte) : Statement (.nopZpxD4 b) := of_row 0xD4 _ rfl rfl rfl rfl rfl
theorem cmpZpx (b : Byte) : Statement (.cmpZpx b) := of_row 0xD5 _ rfl rfl rfl rfl rfl
theorem decZpx (b : Byte) : Statement (.decZpx b) := of_row 0xD6 _ rfl rfl rfl rfl rfl
theorem dcpZpx (b : Byte) : Statement (.dcpZpx b) := of_row 0xD7 _ rfl rfl rfl rfl rfl
theorem cmpAby (w : Word) : Statement (.cmpAby w) := of_row 0xD9 _ rfl rfl rfl rfl rfl
theorem dcpAby (w : Word) : Statement (.dcpAby w) := of_row 0xDB _ rfl rfl rfl rfl rfl
theorem nopAbxDC (w : Word) : Statement (.nopAbxDC w) := of_row 0xDC _ rfl rfl rfl rfl rfl
theorem cmpAbx (w : Word) : Statement (.cmpAbx w) := of_row 0xDD _ rfl rfl rfl rfl rfl
theorem decAbx (w : Word) : Statement (.decAbx w) := of_row 0xDE _ rfl rfl rfl rfl rfl
theorem dcpAbx (w : Word) : Statement (.dcpAbx w) := of_row 0xDF _ rfl rfl rfl rfl rfl
theorem cpxImm (b : Byte) : Statement (.cpxImm b) := of_row 0xE0 _ rfl rfl rfl rfl rfl
theorem sbcIzx (b : Byte) : Statement (.sbcIzx b) := of_row 0xE1 _ rfl rfl rfl rfl rfl
theorem nopImmE2 (b : Byte) : Statement (.nopImmE2 b) := of_row 0xE2 _ rfl rfl rfl rfl rfl
theorem isbIzx (b : Byte) : Statement (.isbIzx b) := of_row 0xE3 _ rfl rfl rfl rfl rfl
theorem cpxZp (b : Byte) : Statement (.cpxZp b) := of_row 0xE4 _ rfl rfl rfl rfl rfl
theorem sbcZp (b : Byte) : Statement (.sbcZp b) := of_row 0xE5 _ rfl rfl rfl rfl rfl
theorem incZp (b : Byte) : Statement (.incZp b) := of_row 0xE6 _ rfl rfl rfl rfl rfl
theorem isbZp (b : Byte) : Statement (.isbZp b) := of_row 0xE7 _ rfl rfl rfl rfl rfl
theorem sbcImm (b : Byte) : Statement (.sbcImm b) := of_row 0xE9 _ rfl rfl rfl rfl rfl
theorem usbc (b : Byte) : Statement (.usbc b) := of_row 0xEB _ rfl rfl rfl rfl rfl
theorem cpxAbs (w : Word) : Statement (.cpxAbs w) := of_row 0xEC _ rfl rfl rfl rfl rfl
theorem sbcAbs (w : Word) : Statement (.sbcAbs w) := of_row 0xED _ rfl rfl rfl rfl rfl
theorem incAbs (w : Word) : Statement (.incAbs w) := of_row 0xEE _ rfl rfl rfl rfl rfl
theorem isbAbs (w : Word) : Statement (.isbAbs w) := of_row 0xEF _ rfl rfl rfl rfl rfl
theorem beq (off : Int) : Statement (.beq off) := of_row 0xF0 _ rfl rfl rfl rfl rfl
theorem sbcIzy (b : Byte) : Statement (.sbcIzy b) := of_row 0xF1 _ rfl rfl rfl rfl rfl
theorem isbIzy (b : Byte) : Statement (.isbIzy b) := of_row 0xF3 _ rfl rfl rfl rfl rfl
theorem nopZpxF4 (b : Byte) : Statement (.nopZpxF4 b) := of_row 0xF4 _ rfl rfl rfl rfl rfl
theorem sbcZpx (b : Byte) : Statement (.sbcZpx b) := of_row 0xF5 _ rfl rfl rfl rfl rfl
theorem incZpx (b : Byte) : Statement (.incZpx b) := of_row 0xF6 _ rfl rfl rfl rfl rfl
theorem isbZpx (b : Byte) : Statement (.isbZpx b) := of_row 0xF7 _ rfl rfl rfl rfl rfl
theorem sbcAby (w : Word) : Statement (.sbcAby w) := of_row 0xF9 _ rfl rfl rfl rfl rfl
theorem isbAby (w : Word) : Statement (.isbAby w) := of_row 0xFB _ rfl rfl rfl rfl rfl
theorem nopAbxFC (w : Word) : Statement (.nopAbxFC w) := of_row 0xFC _ rfl rfl rfl rfl rfl
theorem sbcAbx (w : Word) : Statement (.sbcAbx w) := of_row 0xFD _ rfl rfl rfl rfl rfl
theorem incAbx (w : Word) : Statement (.incAbx w) := of_row 0xFE _ rfl rfl rfl rfl rfl
theorem isbAbx (w : Word) : Statement (.isbAbx w) := of_row 0xFF _ rfl rfl rfl rfl rfl
theorem brk : Statement .brk := of_row 0x00 _ rfl rfl rfl rfl rfl
theorem jam02 : Statement .jam02 := of_row 0x02 _ rfl rfl rfl rfl rfl
theorem php : Statement .php := of_row 0x08 _ rfl rfl rfl rfl rfl
theorem aslImp : Statement .aslImp := of_row 0x0A _ rfl rfl rfl rfl rfl
theorem jam12 : Statement .jam12 := of_row 0x12 _ rfl rfl rfl rfl rfl
theorem clc : Statement .clc := of_row 0x18 _ rfl rfl rfl rfl rfl
theorem nopImp1A : Statement .nopImp1A := of_row 0x1A _ rfl rfl rfl rfl rfl
theorem jam22 : Statement .jam22 := of_row 0x22 _ rfl rfl rfl rfl rfl
theorem plp : Statement .plp := of_row 0x28 _ rfl rfl rfl rfl rfl
theorem rolImp : Statement .rolImp := of_row 0x2A _ rfl rfl rfl rfl rfl
theorem jam32 : Statement .jam32 := of_row 0x32 _ rfl rfl rfl rfl rfl
theorem sec : Statement .sec := of_row 0x38 _ rfl rfl rfl rfl rfl
theorem nopImp3A : Statement .nopImp3A := of_row 0x3A _ rfl rfl rfl rfl rfl
theorem rti : Statement .rti := of_row 0x40 _ rfl rfl rfl rfl rfl
theorem jam42 : Statement .jam42 := of_row 0x42 _ rfl rfl rfl rfl rfl
theorem pha : Statement .pha := of_row 0x48 _ rfl rfl rfl rfl rfl
theorem lsrImp : Statement .lsrImp := of_row 0x4A _ rfl rfl rfl rfl rfl
theorem jam52 : Statement .jam52 := of_row 0x52 _ rfl rfl rfl rfl rfl
theorem cli : Statement .cli := of_row 0x58 _ rfl rfl rfl rfl rfl
theorem nopImp5A : Statement .nopImp5A := of_row 0x5A _ rfl rfl rfl rfl rfl
theorem rts : Statement .rts := of_row 0x60 _ rfl rfl rfl rfl rfl
theorem jam62 : Statement .jam62 := of_row 0x62 _ rfl rfl rfl rfl rfl
theorem pla : Statement .pla := of_row 0x68 _ rfl rfl rfl rfl rfl
theorem rorImp : Statement .rorImp := of_row 0x6A _ rfl rfl rfl rfl rfl
theorem jam72 : Statement .jam72 := of_row 0x72 _ rfl rfl rfl rfl rfl
theorem sei : Statement .sei := of_row 0x78 _ rfl rfl rfl rfl rfl
theorem nopImp7A : Statement .nopImp7A := of_row 0x7A _ rfl rfl rfl rfl rfl
theorem dey : Statement .dey := of_row 0x88 _ rfl rfl rfl rfl rfl
theorem txa : Statement .txa := of_row 0x8A _ rfl rfl rfl rfl rfl
theorem jam92 : Statement .jam92 := of_row 0x92 _ rfl rfl rfl rfl rfl
theorem tya : Statement .tya := of_row 0x98 _ rfl rfl rfl rfl rfl
theorem txs : Statement .txs := of_row 0x9A _ rfl rfl rfl rfl rfl
theorem tay : Statement .tay := of_row 0xA8 _ rfl rfl rfl rfl rfl
theorem tax : Statement .tax := of_row 0xAA _ rfl rfl rfl rfl rfl
theorem jamB2 : Statement .jamB2 := of_row 0xB2 _ rfl rfl rfl rfl rfl
theorem clv : Statement .clv := of_row 0xB8 _ rfl rfl rfl rfl rfl
theorem tsx : Statement .tsx := of_row 0xBA _ rfl rfl rfl rfl rfl
theorem iny : Statement .iny := of_row 0xC8 _ rfl rfl rfl rfl rfl
theorem dex : Statement .dex := of_row 0xCA _ rfl rfl rfl rfl rfl
theorem jamD2 : Statement .jamD2 := of_row 0xD2 _ rfl rfl rfl rfl rfl
theorem cld : Statement .cld := of_row 0xD8 _ rfl rfl rfl rfl rfl
theorem nopImpDA : Statement .nopImpDA := of_row 0xDA _ rfl rfl rfl rfl rfl
theorem inx : Statement .inx := of_row 0xE8 _ rfl rfl rfl rfl rfl
theorem nop : Statement .nop := of_row 0xEA _ rfl rfl rfl rfl rfl
theorem jamF2 : Statement .jamF2 := of_row 0xF2 _ rfl rfl rfl rfl rfl
theorem sed : Statement .sed := of_row 0xF8 _ rfl rfl rfl rfl rfl
theorem nopImpFA : Statement .nopImpFA := of_row 0xFA _ rfl rfl rfl rfl rfl

/-- Every instruction's row matches. -/
theorem all (i : Instr) : Statement i := by
  cases i
  case oraIzx b => exact oraIzx b
  case sloIzx b => exact sloIzx b
  case nopZp04 b => exact nopZp04 b
  case oraZp b => exact oraZp b
  case aslZp b => exact aslZp b
  case sloZp b => exact sloZp b
  case oraImm b => exact oraImm b
  case ancImm0B b => exact ancImm0B b
  case nopAbs w => exact nopAbs w
  case oraAbs w => exact oraAbs w
  case aslAbs w => exact aslAbs w
  case sloAbs w => exact sloAbs w
  case bpl off => exact bpl off
  case oraIzy b => exact oraIzy b
  case sloIzy b => exact sloIzy b
  case nopZpx14 b => exact nopZpx14 b
  case oraZpx b => exact oraZpx b
  case aslZpx b => exact aslZpx b
  case sloZpx b => exact sloZpx b
  case oraAby w => exact oraAby w
  case sloAby w => exact sloAby w
  case nopAbx1C w => exact nopAbx1C w
  case oraAbx w => exact oraAbx w
  case aslAbx w => exact aslAbx w
  case sloAbx w => exact sloAbx w
  case jsr w => exact jsr w
  case andIzx b => exact andIzx b
  case rlaIzx b => exact rlaIzx b
  case bitZp b => exact bitZp b
  case andZp b => exact andZp b
  case rolZp b => exact rolZp b
  case rlaZp b => exact rlaZp b
  case andImm b => exact andImm b
  case ancImm2B b => exact ancImm2B b
  case bitAbs w => exact bitAbs w
  case andAbs w => exact andAbs w
  case rolAbs w => exact rolAbs w
  case rlaAbs w => exact rlaAbs w
  case bmi off => exact bmi off
  case andIzy b => exact andIzy b
  case rlaIzy b => exact rlaIzy b
  case nopZpx34 b => exact nopZpx34 b
  case andZpx b => exact andZpx b
  case rolZpx b => exact rolZpx b
  case rlaZpx b => exact rlaZpx b
  case andAby w => exact andAby w
  case rlaAby w => exact rlaAby w
  case nopAbx3C w => exact nopAbx3C w
  case andAbx w => exact andAbx w
  case rolAbx w => exact rolAbx w
  case rlaAbx w => exact rlaAbx w
  case eorIzx b => exact eorIzx b
  case sreIzx b => exact sreIzx b
  case nopZp44 b => exact nopZp44 b
  case eorZp b => exact eorZp b
  case lsrZp b => exact lsrZp b
  case sreZp b => exact sreZp b
  case eorImm b => exact eorImm b
  case alr b => exact alr b
  case jmpAbs w => exact jmpAbs w
  case eorAbs w => exact eorAbs w
  case lsrAbs w => exact lsrAbs w
  case sreAbs w => exact sreAbs w
  case bvc off => exact bvc off
  case eorIzy b => exact eorIzy b
  case sreIzy b => exact sreIzy b
  case nopZpx54 b => exact nopZpx54 b
  case eorZpx b => exact eorZpx b
  case lsrZpx b => exact lsrZpx b
  case sreZpx b => exact sreZpx b
  case eorAby w => exact eorAby w
  case sreAby w => exact sreAby w
  case nopAbx5C w => exact nopAbx5C w
  case eorAbx w => exact eorAbx w
  case lsrAbx w => exact lsrAbx w
  case sreAbx w => exact sreAbx w
  case adcIzx b => exact adcIzx b
  case rraIzx b => exact rraIzx b
  case nopZp64 b => exact nopZp64 b
  case adcZp b => exact adcZp b
  case rorZp b => exact rorZp b
  case rraZp b => exact rraZp b
  case adcImm b => exact adcImm b
  case arr b => exact arr b
  case jmpInd w => exact jmpInd w
  case adcAbs w => exact adcAbs w
  case rorAbs w => exact rorAbs w
  case rraAbs w => exact rraAbs w
  case bvs off => exact bvs off
  case adcIzy b => exact adcIzy b
  case rraIzy b => exact rraIzy b
  case nopZpx74 b => exact nopZpx74 b
  case adcZpx b => exact adcZpx b
  case rorZpx b => exact rorZpx b
  case rraZpx b => exact rraZpx b
  case adcAby w => exact adcAby w
  case rraAby w => exact rraAby w
  case nopAbx7C w => exact nopAbx7C w
  case adcAbx w => exact adcAbx w
  case rorAbx w => exact rorAbx w
  case rraAbx w => exact rraAbx w
  case nopImm80 b => exact nopImm80 b
  case staIzx b => exact staIzx b
  case nopImm82 b => exact nopImm82 b
  case saxIzx b => exact saxIzx b
  case styZp b => exact styZp b
  case staZp b => exact staZp b
  case stxZp b => exact stxZp b
  case saxZp b => exact saxZp b
  case nopImm89 b => exact nopImm89 b
  case ane b => exact ane b
  case styAbs w => exact styAbs w
  case staAbs w => exact staAbs w
  case stxAbs w => exact stxAbs w
  case saxAbs w => exact saxAbs w
  case bcc off => exact bcc off
  case staIzy b => exact staIzy b
  case shaIzy b => exact shaIzy b
  case styZpx b => exact styZpx b
  case staZpx b => exact staZpx b
  case stxZpy b => exact stxZpy b
  case saxZpy b => exact saxZpy b
  case staAby w => exact staAby w
  case tas w => exact tas w
  case shy w => exact shy w
  case staAbx w => exact staAbx w
  case shx w => exact shx w
  case shaAby w => exact shaAby w
  case ldyImm b => exact ldyImm b
  case ldaIzx b => exact ldaIzx b
  case ldxImm b => exact ldxImm b
  case laxIzx b => exact laxIzx b
  case ldyZp b => exact ldyZp b
  case ldaZp b => exact ldaZp b
  case ldxZp b => exact ldxZp b
  case laxZp b => exact laxZp b
  case ldaImm b => exact ldaImm b
  case lxa b => exact lxa b
  case ldyAbs w => exact ldyAbs w
  case ldaAbs w => exact ldaAbs w
  case ldxAbs w => exact ldxAbs w
  case laxAbs w => exact laxAbs w
  case bcs off => exact bcs off
  case ldaIzy b => exact ldaIzy b
  case laxIzy b => exact laxIzy b
  case ldyZpx b => exact ldyZpx b
  case ldaZpx b => exact ldaZpx b
  case ldxZpy b => exact ldxZpy b
  case laxZpy b => exact laxZpy b
  case ldaAby w => exact ldaAby w
  case las w => exact las w
  case ldyAbx w => exact ldyAbx w
  case ldaAbx w => exact ldaAbx w
  case ldxAby w => exact ldxAby w
  case laxAby w => exact laxAby w
  case cpyImm b => exact cpyImm b
  case cmpIzx b => exact cmpIzx b
  case nopImmC2 b => exact nopImmC2 b
  case dcpIzx b => exact dcpIzx b
  case cpyZp b => exact cpyZp b
  case cmpZp b => exact cmpZp b
  case decZp b => exact decZp b
  case dcpZp b => exact dcpZp b
  case cmpImm b => exact cmpImm b
  case sbx b => exact sbx b
  case cpyAbs w => exact cpyAbs w
  case cmpAbs w => exact cmpAbs w
  case decAbs w => exact decAbs w
  case dcpAbs w => exact dcpAbs w
  case bne off => exact bne off
  case cmpIzy b => exact cmpIzy b
  case dcpIzy b => exact dcpIzy b
  case nopZpxD4 b => exact nopZpxD4 b
  case cmpZpx b => exact cmpZpx b
  case decZpx b => exact decZpx b
  case dcpZpx b => exact dcpZpx b
  case cmpAby w => exact cmpAby w
  case dcpAby w => exact dcpAby w
  case nopAbxDC w => exact nopAbxDC w
  case cmpAbx w => exact cmpAbx w
  case decAbx w => exact decAbx w
  case dcpAbx w => exact dcpAbx w
  case cpxImm b => exact cpxImm b
  case sbcIzx b => exact sbcIzx b
  case nopImmE2 b => exact nopImmE2 b
  case isbIzx b => exact isbIzx b
  case cpxZp b => exact cpxZp b
  case sbcZp b => exact sbcZp b
  case incZp b => exact incZp b
  case isbZp b => exact isbZp b
  case sbcImm b => exact sbcImm b
  case usbc b => exact usbc b
  case cpxAbs w => exact cpxAbs w
  case sbcAbs w => exact sbcAbs w
  case incAbs w => exact incAbs w
  case isbAbs w => exact isbAbs w
  case beq off => exact beq off
  case sbcIzy b => exact sbcIzy b
  case isbIzy b => exact isbIzy b
  case nopZpxF4 b => exact nopZpxF4 b
  case sbcZpx b => exact sbcZpx b
  case incZpx b => exact incZpx b
  case isbZpx b => exact isbZpx b
  case sbcAby w => exact sbcAby w
  case isbAby w => exact isbAby w
  case nopAbxFC w => exact nopAbxFC w
  case sbcAbx w => exact sbcAbx w
  case incAbx w => exact incAbx w
  case isbAbx w => exact isbAbx w
  case brk => exact brk
  case jam02 => exact jam02
  case php => exact php
  case aslImp => exact aslImp
  case jam12 => exact jam12
  case clc => exact clc
  case nopImp1A => exact nopImp1A
  case jam22 => exact jam22
  case plp => exact plp
  case rolImp => exact rolImp
  case jam32 => exact jam32
  case sec => exact sec
  case nopImp3A => exact nopImp3A
  case rti => exact rti
  case jam42 => exact jam42
  case pha => exact pha
  case lsrImp => exact lsrImp
  case jam52 => exact jam52
  case cli => exact cli
  case nopImp5A => exact nopImp5A
  case rts => exact rts
  case jam62 => exact jam62
  case pla => exact pla
  case rorImp => exact rorImp
  case jam72 => exact jam72
  case sei => exact sei
  case nopImp7A => exact nopImp7A
  case dey => exact dey
  case txa => exact txa
  case jam92 => exact jam92
  case tya => exact tya
  case txs => exact txs
  case tay => exact tay
  case tax => exact tax
  case jamB2 => exact jamB2
  case clv => exact clv
  case tsx => exact tsx
  case iny => exact iny
  case dex => exact dex
  case jamD2 => exact jamD2
  case cld => exact cld
  case nopImpDA => exact nopImpDA
  case inx => exact inx
  case nop => exact nop
  case jamF2 => exact jamF2
  case sed => exact sed
  case nopImpFA => exact nopImpFA

end Sys2Proof.Laws.RowMatches

namespace Sys2Proof

/-- The row of an instruction, by its opcode byte; both facts are closed and hold by `rfl`. -/
theorem Instr.descriptor_of {i : Instr} {d : Descriptor} (op : Byte) (h1 : i.opcode = op)
    (h2 : descriptorAt op = some d) : i.descriptor = some d := by
  rw [Instr.descriptor, h1, h2]

/-- Every instruction has a row, and it matches. -/
theorem Instr.descriptor_matches (i : Instr) : ∃ d, i.descriptor = some d ∧ d.code = i.opcode ∧
    i.operand.map Operand.mode = (if d.mode = .implied then none else some d.mode) ∧ (encode i).length = d.length :=
  Laws.RowMatches.all i

theorem Instr.descriptor_code {i : Instr} {d : Descriptor} (hd : i.descriptor = some d) : d.code = i.opcode := by
  obtain ⟨e, he, h, _⟩ := i.descriptor_matches
  cases hd.symm.trans he
  exact h

/-- The mode of an instruction's operand is its row's. -/
theorem Instr.operand_mode {i : Instr} {d : Descriptor} {o : Operand} (hd : i.descriptor = some d)
    (ho : i.operand = some o) : o.mode = d.mode := by
  obtain ⟨e, he, _, h, _⟩ := i.descriptor_matches
  cases hd.symm.trans he
  rw [ho] at h
  split at h
  · simp at h
  · simpa using h

theorem Instr.operand_length {i : Instr} {d : Descriptor} {o : Operand} (hd : i.descriptor = some d)
    (ho : i.operand = some o) : o.mode.length = d.length := by
  rw [Instr.operand_mode hd ho, Descriptor.length]

theorem mem_opcodes {op : Byte} {d : Descriptor} (h : descriptorAt op = some d) : d ∈ opcodes := by
  unfold descriptorAt at h
  split at h
  · cases h
  · next row hr =>
    have h1 := List.mem_of_getElem? hr
    have h2 := List.mem_of_getElem? h
    have e : opcodes = opcodeRows.flatten := by decide +kernel
    rw [e]
    exact List.mem_flatten.2 ⟨row, h1, h2⟩

/-- The rows that write memory carry no page-cross flag (R193). -/
theorem storing_unflagged {i : Instr} {d : Descriptor} (hd : i.descriptor = some d) :
    d.mnemonic ∈ [Mnemonic.sta, .stx, .sty, .sax, .inc, .dec, .asl, .lsr, .rol, .ror, .slo, .rla, .sre, .rra, .dcp,
      .isb] → d.addCycleOnPageCross = false := by
  have h : ∀ e ∈ opcodes, e.mnemonic ∈ [Mnemonic.sta, .stx, .sty, .sax, .inc, .dec, .asl, .lsr, .rol, .ror, .slo, .rla,
      .sre, .rra, .dcp, .isb] → e.addCycleOnPageCross = false := by decide +kernel
  exact h d (mem_opcodes hd)

end Sys2Proof
end

