-- ==== Sys2Proof/Laws/Meaning.lean ====
section
/-! SUPPORT. The meaning of every instruction with an operand, read off its row: one lemma in place of a case split over
the rows. Branches, JMP and JSR have lemmas of their own. -/

namespace Sys2Proof.Machine

/-- The meaning a row gives an instruction with operand `o`; none for the control transfers. -/
def rowMeaning (d : Descriptor) (o : Operand) : Option (State → Result) :=
  let read (f : Byte → State → State) : Option (State → Result) :=
    some (readInstr d.baseCycles d.addCycleOnPageCross o f)
  let rmw (op : Byte → Flags → Byte × Flags) (post : Byte → State → State) : Option (State → Result) :=
    some (rmwInstr d.baseCycles o op post)
  let stub (f : Byte → State → State) : Option (State → Result) :=
    some (stubInstr d.code d.baseCycles d.addCycleOnPageCross o f)
  match d.mnemonic with
  | .lda => read loadA
  | .ldx => read loadX
  | .ldy => read loadY
  | .lax => read loadAX
  | .adc => read addA
  | .sbc | .usbc => read subA
  | .and => read andA
  | .ora => read oraA
  | .eor => read eorA
  | .bit => read bitTest
  | .cmp => read compareA
  | .cpx => read compareX
  | .cpy => read compareY
  | .sta => some fun s => writeInstr d.baseCycles o s.a s
  | .stx => some fun s => writeInstr d.baseCycles o s.x s
  | .sty => some fun s => writeInstr d.baseCycles o s.y s
  | .sax => some fun s => writeInstr d.baseCycles o (s.a &&& s.x) s
  | .inc => rmw incByte State.setNZ
  | .dec => rmw decByte State.setNZ
  | .asl => rmw asl noMore
  | .lsr => rmw lsr noMore
  | .rol => rmw rol noMore
  | .ror => rmw ror noMore
  | .slo => rmw asl oraA
  | .rla => rmw rol andA
  | .sre => rmw lsr eorA
  | .rra => rmw ror addA
  | .dcp => rmw decByte compareA
  | .isb => rmw incByte subA
  | .nop =>
    if d.mode = .immediate then some (skipInstr d.length d.baseCycles)
    else some (nopMemoryInstr d.baseCycles d.addCycleOnPageCross o)
  | .anc => stub ancA
  | .alr => stub alrA
  | .arr => stub arrA
  | .sbx => stub sbxX
  | .las => stub lasAll
  | .ane | .lxa | .sha | .shx | .shy | .tas => some (unstableInstr d.code d.baseCycles)
  | .jam | .brk | .rti | .rts | .jmp | .jsr | .bpl | .bmi | .bvc | .bvs | .bcc | .bcs | .bne | .beq
  | .pha | .php | .pla | .plp | .tax | .tay | .txa | .tya | .tsx | .txs | .inx | .iny | .dex | .dey
  | .clc | .sec | .cli | .sei | .clv | .cld | .sed => none

/-- A branch, JSR or JMP. -/
def IsTransfer (i : Instr) : Prop :=
  (∃ off, i.operand = some (.relative off)) ∨ ∃ k, i = .jsr k ∨ i = .jmpAbs k ∨ i = .jmpInd k

/-- What the row gives `i` is what `exec` does; only Implied rows and control transfers give none. -/
def Agrees (i : Instr) : Prop :=
  ((i.descriptor.bind fun d => i.operand.bind (rowMeaning d)).elim True fun f => exec i = f) ∧
    (i.operand = none ∨ (i.descriptor.bind fun d => i.operand.bind (rowMeaning d)) ≠ none ∨ IsTransfer i)

namespace Agrees

theorem of_row {i : Instr} (op : Byte) {d : Descriptor} {o : Operand} {f : State → Result} (h1 : i.opcode = op)
    (h2 : descriptorAt op = some d) (h3 : i.operand = some o) (h4 : rowMeaning d o = some f) (h5 : exec i = f) :
    Agrees i := by
  have h : (i.descriptor.bind fun d => i.operand.bind (rowMeaning d)) = some f := by
    rw [Instr.descriptor, h1, h2, h3]; exact h4
  rw [Agrees, h]
  exact ⟨h5, .inr (.inl (by simp))⟩

theorem oraIzx (b : Byte) : Agrees (.oraIzx b) := of_row 0x01 rfl rfl rfl rfl rfl
theorem sloIzx (b : Byte) : Agrees (.sloIzx b) := of_row 0x03 rfl rfl rfl rfl rfl
theorem nopZp04 (b : Byte) : Agrees (.nopZp04 b) := of_row 0x04 rfl rfl rfl rfl rfl
theorem oraZp (b : Byte) : Agrees (.oraZp b) := of_row 0x05 rfl rfl rfl rfl rfl
theorem aslZp (b : Byte) : Agrees (.aslZp b) := of_row 0x06 rfl rfl rfl rfl rfl
theorem sloZp (b : Byte) : Agrees (.sloZp b) := of_row 0x07 rfl rfl rfl rfl rfl
theorem oraImm (b : Byte) : Agrees (.oraImm b) := of_row 0x09 rfl rfl rfl rfl rfl
theorem ancImm0B (b : Byte) : Agrees (.ancImm0B b) := of_row 0x0B rfl rfl rfl rfl rfl
theorem nopAbs (w : Word) : Agrees (.nopAbs w) := of_row 0x0C rfl rfl rfl rfl rfl
theorem oraAbs (w : Word) : Agrees (.oraAbs w) := of_row 0x0D rfl rfl rfl rfl rfl
theorem aslAbs (w : Word) : Agrees (.aslAbs w) := of_row 0x0E rfl rfl rfl rfl rfl
theorem sloAbs (w : Word) : Agrees (.sloAbs w) := of_row 0x0F rfl rfl rfl rfl rfl
theorem oraIzy (b : Byte) : Agrees (.oraIzy b) := of_row 0x11 rfl rfl rfl rfl rfl
theorem sloIzy (b : Byte) : Agrees (.sloIzy b) := of_row 0x13 rfl rfl rfl rfl rfl
theorem nopZpx14 (b : Byte) : Agrees (.nopZpx14 b) := of_row 0x14 rfl rfl rfl rfl rfl
theorem oraZpx (b : Byte) : Agrees (.oraZpx b) := of_row 0x15 rfl rfl rfl rfl rfl
theorem aslZpx (b : Byte) : Agrees (.aslZpx b) := of_row 0x16 rfl rfl rfl rfl rfl
theorem sloZpx (b : Byte) : Agrees (.sloZpx b) := of_row 0x17 rfl rfl rfl rfl rfl
theorem oraAby (w : Word) : Agrees (.oraAby w) := of_row 0x19 rfl rfl rfl rfl rfl
theorem sloAby (w : Word) : Agrees (.sloAby w) := of_row 0x1B rfl rfl rfl rfl rfl
theorem nopAbx1C (w : Word) : Agrees (.nopAbx1C w) := of_row 0x1C rfl rfl rfl rfl rfl
theorem oraAbx (w : Word) : Agrees (.oraAbx w) := of_row 0x1D rfl rfl rfl rfl rfl
theorem aslAbx (w : Word) : Agrees (.aslAbx w) := of_row 0x1E rfl rfl rfl rfl rfl
theorem sloAbx (w : Word) : Agrees (.sloAbx w) := of_row 0x1F rfl rfl rfl rfl rfl
theorem andIzx (b : Byte) : Agrees (.andIzx b) := of_row 0x21 rfl rfl rfl rfl rfl
theorem rlaIzx (b : Byte) : Agrees (.rlaIzx b) := of_row 0x23 rfl rfl rfl rfl rfl
theorem bitZp (b : Byte) : Agrees (.bitZp b) := of_row 0x24 rfl rfl rfl rfl rfl
theorem andZp (b : Byte) : Agrees (.andZp b) := of_row 0x25 rfl rfl rfl rfl rfl
theorem rolZp (b : Byte) : Agrees (.rolZp b) := of_row 0x26 rfl rfl rfl rfl rfl
theorem rlaZp (b : Byte) : Agrees (.rlaZp b) := of_row 0x27 rfl rfl rfl rfl rfl
theorem andImm (b : Byte) : Agrees (.andImm b) := of_row 0x29 rfl rfl rfl rfl rfl
theorem ancImm2B (b : Byte) : Agrees (.ancImm2B b) := of_row 0x2B rfl rfl rfl rfl rfl
theorem bitAbs (w : Word) : Agrees (.bitAbs w) := of_row 0x2C rfl rfl rfl rfl rfl
theorem andAbs (w : Word) : Agrees (.andAbs w) := of_row 0x2D rfl rfl rfl rfl rfl
theorem rolAbs (w : Word) : Agrees (.rolAbs w) := of_row 0x2E rfl rfl rfl rfl rfl
theorem rlaAbs (w : Word) : Agrees (.rlaAbs w) := of_row 0x2F rfl rfl rfl rfl rfl
theorem andIzy (b : Byte) : Agrees (.andIzy b) := of_row 0x31 rfl rfl rfl rfl rfl
theorem rlaIzy (b : Byte) : Agrees (.rlaIzy b) := of_row 0x33 rfl rfl rfl rfl rfl
theorem nopZpx34 (b : Byte) : Agrees (.nopZpx34 b) := of_row 0x34 rfl rfl rfl rfl rfl
theorem andZpx (b : Byte) : Agrees (.andZpx b) := of_row 0x35 rfl rfl rfl rfl rfl
theorem rolZpx (b : Byte) : Agrees (.rolZpx b) := of_row 0x36 rfl rfl rfl rfl rfl
theorem rlaZpx (b : Byte) : Agrees (.rlaZpx b) := of_row 0x37 rfl rfl rfl rfl rfl
theorem andAby (w : Word) : Agrees (.andAby w) := of_row 0x39 rfl rfl rfl rfl rfl
theorem rlaAby (w : Word) : Agrees (.rlaAby w) := of_row 0x3B rfl rfl rfl rfl rfl
theorem nopAbx3C (w : Word) : Agrees (.nopAbx3C w) := of_row 0x3C rfl rfl rfl rfl rfl
theorem andAbx (w : Word) : Agrees (.andAbx w) := of_row 0x3D rfl rfl rfl rfl rfl
theorem rolAbx (w : Word) : Agrees (.rolAbx w) := of_row 0x3E rfl rfl rfl rfl rfl
theorem rlaAbx (w : Word) : Agrees (.rlaAbx w) := of_row 0x3F rfl rfl rfl rfl rfl
theorem eorIzx (b : Byte) : Agrees (.eorIzx b) := of_row 0x41 rfl rfl rfl rfl rfl
theorem sreIzx (b : Byte) : Agrees (.sreIzx b) := of_row 0x43 rfl rfl rfl rfl rfl
theorem nopZp44 (b : Byte) : Agrees (.nopZp44 b) := of_row 0x44 rfl rfl rfl rfl rfl
theorem eorZp (b : Byte) : Agrees (.eorZp b) := of_row 0x45 rfl rfl rfl rfl rfl
theorem lsrZp (b : Byte) : Agrees (.lsrZp b) := of_row 0x46 rfl rfl rfl rfl rfl
theorem sreZp (b : Byte) : Agrees (.sreZp b) := of_row 0x47 rfl rfl rfl rfl rfl
theorem eorImm (b : Byte) : Agrees (.eorImm b) := of_row 0x49 rfl rfl rfl rfl rfl
theorem alr (b : Byte) : Agrees (.alr b) := of_row 0x4B rfl rfl rfl rfl rfl
theorem eorAbs (w : Word) : Agrees (.eorAbs w) := of_row 0x4D rfl rfl rfl rfl rfl
theorem lsrAbs (w : Word) : Agrees (.lsrAbs w) := of_row 0x4E rfl rfl rfl rfl rfl
theorem sreAbs (w : Word) : Agrees (.sreAbs w) := of_row 0x4F rfl rfl rfl rfl rfl
theorem eorIzy (b : Byte) : Agrees (.eorIzy b) := of_row 0x51 rfl rfl rfl rfl rfl
theorem sreIzy (b : Byte) : Agrees (.sreIzy b) := of_row 0x53 rfl rfl rfl rfl rfl
theorem nopZpx54 (b : Byte) : Agrees (.nopZpx54 b) := of_row 0x54 rfl rfl rfl rfl rfl
theorem eorZpx (b : Byte) : Agrees (.eorZpx b) := of_row 0x55 rfl rfl rfl rfl rfl
theorem lsrZpx (b : Byte) : Agrees (.lsrZpx b) := of_row 0x56 rfl rfl rfl rfl rfl
theorem sreZpx (b : Byte) : Agrees (.sreZpx b) := of_row 0x57 rfl rfl rfl rfl rfl
theorem eorAby (w : Word) : Agrees (.eorAby w) := of_row 0x59 rfl rfl rfl rfl rfl
theorem sreAby (w : Word) : Agrees (.sreAby w) := of_row 0x5B rfl rfl rfl rfl rfl
theorem nopAbx5C (w : Word) : Agrees (.nopAbx5C w) := of_row 0x5C rfl rfl rfl rfl rfl
theorem eorAbx (w : Word) : Agrees (.eorAbx w) := of_row 0x5D rfl rfl rfl rfl rfl
theorem lsrAbx (w : Word) : Agrees (.lsrAbx w) := of_row 0x5E rfl rfl rfl rfl rfl
theorem sreAbx (w : Word) : Agrees (.sreAbx w) := of_row 0x5F rfl rfl rfl rfl rfl
theorem adcIzx (b : Byte) : Agrees (.adcIzx b) := of_row 0x61 rfl rfl rfl rfl rfl
theorem rraIzx (b : Byte) : Agrees (.rraIzx b) := of_row 0x63 rfl rfl rfl rfl rfl
theorem nopZp64 (b : Byte) : Agrees (.nopZp64 b) := of_row 0x64 rfl rfl rfl rfl rfl
theorem adcZp (b : Byte) : Agrees (.adcZp b) := of_row 0x65 rfl rfl rfl rfl rfl
theorem rorZp (b : Byte) : Agrees (.rorZp b) := of_row 0x66 rfl rfl rfl rfl rfl
theorem rraZp (b : Byte) : Agrees (.rraZp b) := of_row 0x67 rfl rfl rfl rfl rfl
theorem adcImm (b : Byte) : Agrees (.adcImm b) := of_row 0x69 rfl rfl rfl rfl rfl
theorem arr (b : Byte) : Agrees (.arr b) := of_row 0x6B rfl rfl rfl rfl rfl
theorem adcAbs (w : Word) : Agrees (.adcAbs w) := of_row 0x6D rfl rfl rfl rfl rfl
theorem rorAbs (w : Word) : Agrees (.rorAbs w) := of_row 0x6E rfl rfl rfl rfl rfl
theorem rraAbs (w : Word) : Agrees (.rraAbs w) := of_row 0x6F rfl rfl rfl rfl rfl
theorem adcIzy (b : Byte) : Agrees (.adcIzy b) := of_row 0x71 rfl rfl rfl rfl rfl
theorem rraIzy (b : Byte) : Agrees (.rraIzy b) := of_row 0x73 rfl rfl rfl rfl rfl
theorem nopZpx74 (b : Byte) : Agrees (.nopZpx74 b) := of_row 0x74 rfl rfl rfl rfl rfl
theorem adcZpx (b : Byte) : Agrees (.adcZpx b) := of_row 0x75 rfl rfl rfl rfl rfl
theorem rorZpx (b : Byte) : Agrees (.rorZpx b) := of_row 0x76 rfl rfl rfl rfl rfl
theorem rraZpx (b : Byte) : Agrees (.rraZpx b) := of_row 0x77 rfl rfl rfl rfl rfl
theorem adcAby (w : Word) : Agrees (.adcAby w) := of_row 0x79 rfl rfl rfl rfl rfl
theorem rraAby (w : Word) : Agrees (.rraAby w) := of_row 0x7B rfl rfl rfl rfl rfl
theorem nopAbx7C (w : Word) : Agrees (.nopAbx7C w) := of_row 0x7C rfl rfl rfl rfl rfl
theorem adcAbx (w : Word) : Agrees (.adcAbx w) := of_row 0x7D rfl rfl rfl rfl rfl
theorem rorAbx (w : Word) : Agrees (.rorAbx w) := of_row 0x7E rfl rfl rfl rfl rfl
theorem rraAbx (w : Word) : Agrees (.rraAbx w) := of_row 0x7F rfl rfl rfl rfl rfl
theorem nopImm80 (b : Byte) : Agrees (.nopImm80 b) := of_row 0x80 rfl rfl rfl rfl rfl
theorem staIzx (b : Byte) : Agrees (.staIzx b) := of_row 0x81 rfl rfl rfl rfl rfl
theorem nopImm82 (b : Byte) : Agrees (.nopImm82 b) := of_row 0x82 rfl rfl rfl rfl rfl
theorem saxIzx (b : Byte) : Agrees (.saxIzx b) := of_row 0x83 rfl rfl rfl rfl rfl
theorem styZp (b : Byte) : Agrees (.styZp b) := of_row 0x84 rfl rfl rfl rfl rfl
theorem staZp (b : Byte) : Agrees (.staZp b) := of_row 0x85 rfl rfl rfl rfl rfl
theorem stxZp (b : Byte) : Agrees (.stxZp b) := of_row 0x86 rfl rfl rfl rfl rfl
theorem saxZp (b : Byte) : Agrees (.saxZp b) := of_row 0x87 rfl rfl rfl rfl rfl
theorem nopImm89 (b : Byte) : Agrees (.nopImm89 b) := of_row 0x89 rfl rfl rfl rfl rfl
theorem ane (b : Byte) : Agrees (.ane b) := of_row 0x8B rfl rfl rfl rfl rfl
theorem styAbs (w : Word) : Agrees (.styAbs w) := of_row 0x8C rfl rfl rfl rfl rfl
theorem staAbs (w : Word) : Agrees (.staAbs w) := of_row 0x8D rfl rfl rfl rfl rfl
theorem stxAbs (w : Word) : Agrees (.stxAbs w) := of_row 0x8E rfl rfl rfl rfl rfl
theorem saxAbs (w : Word) : Agrees (.saxAbs w) := of_row 0x8F rfl rfl rfl rfl rfl
theorem staIzy (b : Byte) : Agrees (.staIzy b) := of_row 0x91 rfl rfl rfl rfl rfl
theorem shaIzy (b : Byte) : Agrees (.shaIzy b) := of_row 0x93 rfl rfl rfl rfl rfl
theorem styZpx (b : Byte) : Agrees (.styZpx b) := of_row 0x94 rfl rfl rfl rfl rfl
theorem staZpx (b : Byte) : Agrees (.staZpx b) := of_row 0x95 rfl rfl rfl rfl rfl
theorem stxZpy (b : Byte) : Agrees (.stxZpy b) := of_row 0x96 rfl rfl rfl rfl rfl
theorem saxZpy (b : Byte) : Agrees (.saxZpy b) := of_row 0x97 rfl rfl rfl rfl rfl
theorem staAby (w : Word) : Agrees (.staAby w) := of_row 0x99 rfl rfl rfl rfl rfl
theorem tas (w : Word) : Agrees (.tas w) := of_row 0x9B rfl rfl rfl rfl rfl
theorem shy (w : Word) : Agrees (.shy w) := of_row 0x9C rfl rfl rfl rfl rfl
theorem staAbx (w : Word) : Agrees (.staAbx w) := of_row 0x9D rfl rfl rfl rfl rfl
theorem shx (w : Word) : Agrees (.shx w) := of_row 0x9E rfl rfl rfl rfl rfl
theorem shaAby (w : Word) : Agrees (.shaAby w) := of_row 0x9F rfl rfl rfl rfl rfl
theorem ldyImm (b : Byte) : Agrees (.ldyImm b) := of_row 0xA0 rfl rfl rfl rfl rfl
theorem ldaIzx (b : Byte) : Agrees (.ldaIzx b) := of_row 0xA1 rfl rfl rfl rfl rfl
theorem ldxImm (b : Byte) : Agrees (.ldxImm b) := of_row 0xA2 rfl rfl rfl rfl rfl
theorem laxIzx (b : Byte) : Agrees (.laxIzx b) := of_row 0xA3 rfl rfl rfl rfl rfl
theorem ldyZp (b : Byte) : Agrees (.ldyZp b) := of_row 0xA4 rfl rfl rfl rfl rfl
theorem ldaZp (b : Byte) : Agrees (.ldaZp b) := of_row 0xA5 rfl rfl rfl rfl rfl
theorem ldxZp (b : Byte) : Agrees (.ldxZp b) := of_row 0xA6 rfl rfl rfl rfl rfl
theorem laxZp (b : Byte) : Agrees (.laxZp b) := of_row 0xA7 rfl rfl rfl rfl rfl
theorem ldaImm (b : Byte) : Agrees (.ldaImm b) := of_row 0xA9 rfl rfl rfl rfl rfl
theorem lxa (b : Byte) : Agrees (.lxa b) := of_row 0xAB rfl rfl rfl rfl rfl
theorem ldyAbs (w : Word) : Agrees (.ldyAbs w) := of_row 0xAC rfl rfl rfl rfl rfl
theorem ldaAbs (w : Word) : Agrees (.ldaAbs w) := of_row 0xAD rfl rfl rfl rfl rfl
theorem ldxAbs (w : Word) : Agrees (.ldxAbs w) := of_row 0xAE rfl rfl rfl rfl rfl
theorem laxAbs (w : Word) : Agrees (.laxAbs w) := of_row 0xAF rfl rfl rfl rfl rfl
theorem ldaIzy (b : Byte) : Agrees (.ldaIzy b) := of_row 0xB1 rfl rfl rfl rfl rfl
theorem laxIzy (b : Byte) : Agrees (.laxIzy b) := of_row 0xB3 rfl rfl rfl rfl rfl
theorem ldyZpx (b : Byte) : Agrees (.ldyZpx b) := of_row 0xB4 rfl rfl rfl rfl rfl
theorem ldaZpx (b : Byte) : Agrees (.ldaZpx b) := of_row 0xB5 rfl rfl rfl rfl rfl
theorem ldxZpy (b : Byte) : Agrees (.ldxZpy b) := of_row 0xB6 rfl rfl rfl rfl rfl
theorem laxZpy (b : Byte) : Agrees (.laxZpy b) := of_row 0xB7 rfl rfl rfl rfl rfl
theorem ldaAby (w : Word) : Agrees (.ldaAby w) := of_row 0xB9 rfl rfl rfl rfl rfl
theorem las (w : Word) : Agrees (.las w) := of_row 0xBB rfl rfl rfl rfl rfl
theorem ldyAbx (w : Word) : Agrees (.ldyAbx w) := of_row 0xBC rfl rfl rfl rfl rfl
theorem ldaAbx (w : Word) : Agrees (.ldaAbx w) := of_row 0xBD rfl rfl rfl rfl rfl
theorem ldxAby (w : Word) : Agrees (.ldxAby w) := of_row 0xBE rfl rfl rfl rfl rfl
theorem laxAby (w : Word) : Agrees (.laxAby w) := of_row 0xBF rfl rfl rfl rfl rfl
theorem cpyImm (b : Byte) : Agrees (.cpyImm b) := of_row 0xC0 rfl rfl rfl rfl rfl
theorem cmpIzx (b : Byte) : Agrees (.cmpIzx b) := of_row 0xC1 rfl rfl rfl rfl rfl
theorem nopImmC2 (b : Byte) : Agrees (.nopImmC2 b) := of_row 0xC2 rfl rfl rfl rfl rfl
theorem dcpIzx (b : Byte) : Agrees (.dcpIzx b) := of_row 0xC3 rfl rfl rfl rfl rfl
theorem cpyZp (b : Byte) : Agrees (.cpyZp b) := of_row 0xC4 rfl rfl rfl rfl rfl
theorem cmpZp (b : Byte) : Agrees (.cmpZp b) := of_row 0xC5 rfl rfl rfl rfl rfl
theorem decZp (b : Byte) : Agrees (.decZp b) := of_row 0xC6 rfl rfl rfl rfl rfl
theorem dcpZp (b : Byte) : Agrees (.dcpZp b) := of_row 0xC7 rfl rfl rfl rfl rfl
theorem cmpImm (b : Byte) : Agrees (.cmpImm b) := of_row 0xC9 rfl rfl rfl rfl rfl
theorem sbx (b : Byte) : Agrees (.sbx b) := of_row 0xCB rfl rfl rfl rfl rfl
theorem cpyAbs (w : Word) : Agrees (.cpyAbs w) := of_row 0xCC rfl rfl rfl rfl rfl
theorem cmpAbs (w : Word) : Agrees (.cmpAbs w) := of_row 0xCD rfl rfl rfl rfl rfl
theorem decAbs (w : Word) : Agrees (.decAbs w) := of_row 0xCE rfl rfl rfl rfl rfl
theorem dcpAbs (w : Word) : Agrees (.dcpAbs w) := of_row 0xCF rfl rfl rfl rfl rfl
theorem cmpIzy (b : Byte) : Agrees (.cmpIzy b) := of_row 0xD1 rfl rfl rfl rfl rfl
theorem dcpIzy (b : Byte) : Agrees (.dcpIzy b) := of_row 0xD3 rfl rfl rfl rfl rfl
theorem nopZpxD4 (b : Byte) : Agrees (.nopZpxD4 b) := of_row 0xD4 rfl rfl rfl rfl rfl
theorem cmpZpx (b : Byte) : Agrees (.cmpZpx b) := of_row 0xD5 rfl rfl rfl rfl rfl
theorem decZpx (b : Byte) : Agrees (.decZpx b) := of_row 0xD6 rfl rfl rfl rfl rfl
theorem dcpZpx (b : Byte) : Agrees (.dcpZpx b) := of_row 0xD7 rfl rfl rfl rfl rfl
theorem cmpAby (w : Word) : Agrees (.cmpAby w) := of_row 0xD9 rfl rfl rfl rfl rfl
theorem dcpAby (w : Word) : Agrees (.dcpAby w) := of_row 0xDB rfl rfl rfl rfl rfl
theorem nopAbxDC (w : Word) : Agrees (.nopAbxDC w) := of_row 0xDC rfl rfl rfl rfl rfl
theorem cmpAbx (w : Word) : Agrees (.cmpAbx w) := of_row 0xDD rfl rfl rfl rfl rfl
theorem decAbx (w : Word) : Agrees (.decAbx w) := of_row 0xDE rfl rfl rfl rfl rfl
theorem dcpAbx (w : Word) : Agrees (.dcpAbx w) := of_row 0xDF rfl rfl rfl rfl rfl
theorem cpxImm (b : Byte) : Agrees (.cpxImm b) := of_row 0xE0 rfl rfl rfl rfl rfl
theorem sbcIzx (b : Byte) : Agrees (.sbcIzx b) := of_row 0xE1 rfl rfl rfl rfl rfl
theorem nopImmE2 (b : Byte) : Agrees (.nopImmE2 b) := of_row 0xE2 rfl rfl rfl rfl rfl
theorem isbIzx (b : Byte) : Agrees (.isbIzx b) := of_row 0xE3 rfl rfl rfl rfl rfl
theorem cpxZp (b : Byte) : Agrees (.cpxZp b) := of_row 0xE4 rfl rfl rfl rfl rfl
theorem sbcZp (b : Byte) : Agrees (.sbcZp b) := of_row 0xE5 rfl rfl rfl rfl rfl
theorem incZp (b : Byte) : Agrees (.incZp b) := of_row 0xE6 rfl rfl rfl rfl rfl
theorem isbZp (b : Byte) : Agrees (.isbZp b) := of_row 0xE7 rfl rfl rfl rfl rfl
theorem sbcImm (b : Byte) : Agrees (.sbcImm b) := of_row 0xE9 rfl rfl rfl rfl rfl
theorem usbc (b : Byte) : Agrees (.usbc b) := of_row 0xEB rfl rfl rfl rfl rfl
theorem cpxAbs (w : Word) : Agrees (.cpxAbs w) := of_row 0xEC rfl rfl rfl rfl rfl
theorem sbcAbs (w : Word) : Agrees (.sbcAbs w) := of_row 0xED rfl rfl rfl rfl rfl
theorem incAbs (w : Word) : Agrees (.incAbs w) := of_row 0xEE rfl rfl rfl rfl rfl
theorem isbAbs (w : Word) : Agrees (.isbAbs w) := of_row 0xEF rfl rfl rfl rfl rfl
theorem sbcIzy (b : Byte) : Agrees (.sbcIzy b) := of_row 0xF1 rfl rfl rfl rfl rfl
theorem isbIzy (b : Byte) : Agrees (.isbIzy b) := of_row 0xF3 rfl rfl rfl rfl rfl
theorem nopZpxF4 (b : Byte) : Agrees (.nopZpxF4 b) := of_row 0xF4 rfl rfl rfl rfl rfl
theorem sbcZpx (b : Byte) : Agrees (.sbcZpx b) := of_row 0xF5 rfl rfl rfl rfl rfl
theorem incZpx (b : Byte) : Agrees (.incZpx b) := of_row 0xF6 rfl rfl rfl rfl rfl
theorem isbZpx (b : Byte) : Agrees (.isbZpx b) := of_row 0xF7 rfl rfl rfl rfl rfl
theorem sbcAby (w : Word) : Agrees (.sbcAby w) := of_row 0xF9 rfl rfl rfl rfl rfl
theorem isbAby (w : Word) : Agrees (.isbAby w) := of_row 0xFB rfl rfl rfl rfl rfl
theorem nopAbxFC (w : Word) : Agrees (.nopAbxFC w) := of_row 0xFC rfl rfl rfl rfl rfl
theorem sbcAbx (w : Word) : Agrees (.sbcAbx w) := of_row 0xFD rfl rfl rfl rfl rfl
theorem incAbx (w : Word) : Agrees (.incAbx w) := of_row 0xFE rfl rfl rfl rfl rfl
theorem isbAbx (w : Word) : Agrees (.isbAbx w) := of_row 0xFF rfl rfl rfl rfl rfl
theorem of_transfer {i : Instr} (op : Byte) {d : Descriptor} {o : Operand} (h1 : i.opcode = op)
    (h2 : descriptorAt op = some d) (h3 : i.operand = some o) (h4 : rowMeaning d o = none)
    (h5 : IsTransfer i) : Agrees i := by
  have h : (i.descriptor.bind fun d => i.operand.bind (rowMeaning d)) = none := by
    rw [Instr.descriptor, h1, h2, h3]; exact h4
  rw [Agrees, h]
  exact ⟨trivial, .inr (.inr h5)⟩

theorem bpl (off : Int) : Agrees (.bpl off) := of_transfer 0x10 rfl rfl rfl rfl (.inl ⟨_, rfl⟩)
theorem jsr (w : Word) : Agrees (.jsr w) := of_transfer 0x20 rfl rfl rfl rfl (.inr ⟨_, .inl rfl⟩)
theorem bmi (off : Int) : Agrees (.bmi off) := of_transfer 0x30 rfl rfl rfl rfl (.inl ⟨_, rfl⟩)
theorem jmpAbs (w : Word) : Agrees (.jmpAbs w) := of_transfer 0x4C rfl rfl rfl rfl (.inr ⟨_, .inr (.inl rfl)⟩)
theorem bvc (off : Int) : Agrees (.bvc off) := of_transfer 0x50 rfl rfl rfl rfl (.inl ⟨_, rfl⟩)
theorem jmpInd (w : Word) : Agrees (.jmpInd w) := of_transfer 0x6C rfl rfl rfl rfl (.inr ⟨_, .inr (.inr rfl)⟩)
theorem bvs (off : Int) : Agrees (.bvs off) := of_transfer 0x70 rfl rfl rfl rfl (.inl ⟨_, rfl⟩)
theorem bcc (off : Int) : Agrees (.bcc off) := of_transfer 0x90 rfl rfl rfl rfl (.inl ⟨_, rfl⟩)
theorem bcs (off : Int) : Agrees (.bcs off) := of_transfer 0xB0 rfl rfl rfl rfl (.inl ⟨_, rfl⟩)
theorem bne (off : Int) : Agrees (.bne off) := of_transfer 0xD0 rfl rfl rfl rfl (.inl ⟨_, rfl⟩)
theorem beq (off : Int) : Agrees (.beq off) := of_transfer 0xF0 rfl rfl rfl rfl (.inl ⟨_, rfl⟩)
end Agrees

theorem agrees (i : Instr) : Agrees i := by
  cases i
  case oraIzx b => exact Agrees.oraIzx b
  case sloIzx b => exact Agrees.sloIzx b
  case nopZp04 b => exact Agrees.nopZp04 b
  case oraZp b => exact Agrees.oraZp b
  case aslZp b => exact Agrees.aslZp b
  case sloZp b => exact Agrees.sloZp b
  case oraImm b => exact Agrees.oraImm b
  case ancImm0B b => exact Agrees.ancImm0B b
  case nopAbs w => exact Agrees.nopAbs w
  case oraAbs w => exact Agrees.oraAbs w
  case aslAbs w => exact Agrees.aslAbs w
  case sloAbs w => exact Agrees.sloAbs w
  case oraIzy b => exact Agrees.oraIzy b
  case sloIzy b => exact Agrees.sloIzy b
  case nopZpx14 b => exact Agrees.nopZpx14 b
  case oraZpx b => exact Agrees.oraZpx b
  case aslZpx b => exact Agrees.aslZpx b
  case sloZpx b => exact Agrees.sloZpx b
  case oraAby w => exact Agrees.oraAby w
  case sloAby w => exact Agrees.sloAby w
  case nopAbx1C w => exact Agrees.nopAbx1C w
  case oraAbx w => exact Agrees.oraAbx w
  case aslAbx w => exact Agrees.aslAbx w
  case sloAbx w => exact Agrees.sloAbx w
  case andIzx b => exact Agrees.andIzx b
  case rlaIzx b => exact Agrees.rlaIzx b
  case bitZp b => exact Agrees.bitZp b
  case andZp b => exact Agrees.andZp b
  case rolZp b => exact Agrees.rolZp b
  case rlaZp b => exact Agrees.rlaZp b
  case andImm b => exact Agrees.andImm b
  case ancImm2B b => exact Agrees.ancImm2B b
  case bitAbs w => exact Agrees.bitAbs w
  case andAbs w => exact Agrees.andAbs w
  case rolAbs w => exact Agrees.rolAbs w
  case rlaAbs w => exact Agrees.rlaAbs w
  case andIzy b => exact Agrees.andIzy b
  case rlaIzy b => exact Agrees.rlaIzy b
  case nopZpx34 b => exact Agrees.nopZpx34 b
  case andZpx b => exact Agrees.andZpx b
  case rolZpx b => exact Agrees.rolZpx b
  case rlaZpx b => exact Agrees.rlaZpx b
  case andAby w => exact Agrees.andAby w
  case rlaAby w => exact Agrees.rlaAby w
  case nopAbx3C w => exact Agrees.nopAbx3C w
  case andAbx w => exact Agrees.andAbx w
  case rolAbx w => exact Agrees.rolAbx w
  case rlaAbx w => exact Agrees.rlaAbx w
  case eorIzx b => exact Agrees.eorIzx b
  case sreIzx b => exact Agrees.sreIzx b
  case nopZp44 b => exact Agrees.nopZp44 b
  case eorZp b => exact Agrees.eorZp b
  case lsrZp b => exact Agrees.lsrZp b
  case sreZp b => exact Agrees.sreZp b
  case eorImm b => exact Agrees.eorImm b
  case alr b => exact Agrees.alr b
  case eorAbs w => exact Agrees.eorAbs w
  case lsrAbs w => exact Agrees.lsrAbs w
  case sreAbs w => exact Agrees.sreAbs w
  case eorIzy b => exact Agrees.eorIzy b
  case sreIzy b => exact Agrees.sreIzy b
  case nopZpx54 b => exact Agrees.nopZpx54 b
  case eorZpx b => exact Agrees.eorZpx b
  case lsrZpx b => exact Agrees.lsrZpx b
  case sreZpx b => exact Agrees.sreZpx b
  case eorAby w => exact Agrees.eorAby w
  case sreAby w => exact Agrees.sreAby w
  case nopAbx5C w => exact Agrees.nopAbx5C w
  case eorAbx w => exact Agrees.eorAbx w
  case lsrAbx w => exact Agrees.lsrAbx w
  case sreAbx w => exact Agrees.sreAbx w
  case adcIzx b => exact Agrees.adcIzx b
  case rraIzx b => exact Agrees.rraIzx b
  case nopZp64 b => exact Agrees.nopZp64 b
  case adcZp b => exact Agrees.adcZp b
  case rorZp b => exact Agrees.rorZp b
  case rraZp b => exact Agrees.rraZp b
  case adcImm b => exact Agrees.adcImm b
  case arr b => exact Agrees.arr b
  case adcAbs w => exact Agrees.adcAbs w
  case rorAbs w => exact Agrees.rorAbs w
  case rraAbs w => exact Agrees.rraAbs w
  case adcIzy b => exact Agrees.adcIzy b
  case rraIzy b => exact Agrees.rraIzy b
  case nopZpx74 b => exact Agrees.nopZpx74 b
  case adcZpx b => exact Agrees.adcZpx b
  case rorZpx b => exact Agrees.rorZpx b
  case rraZpx b => exact Agrees.rraZpx b
  case adcAby w => exact Agrees.adcAby w
  case rraAby w => exact Agrees.rraAby w
  case nopAbx7C w => exact Agrees.nopAbx7C w
  case adcAbx w => exact Agrees.adcAbx w
  case rorAbx w => exact Agrees.rorAbx w
  case rraAbx w => exact Agrees.rraAbx w
  case nopImm80 b => exact Agrees.nopImm80 b
  case staIzx b => exact Agrees.staIzx b
  case nopImm82 b => exact Agrees.nopImm82 b
  case saxIzx b => exact Agrees.saxIzx b
  case styZp b => exact Agrees.styZp b
  case staZp b => exact Agrees.staZp b
  case stxZp b => exact Agrees.stxZp b
  case saxZp b => exact Agrees.saxZp b
  case nopImm89 b => exact Agrees.nopImm89 b
  case ane b => exact Agrees.ane b
  case styAbs w => exact Agrees.styAbs w
  case staAbs w => exact Agrees.staAbs w
  case stxAbs w => exact Agrees.stxAbs w
  case saxAbs w => exact Agrees.saxAbs w
  case staIzy b => exact Agrees.staIzy b
  case shaIzy b => exact Agrees.shaIzy b
  case styZpx b => exact Agrees.styZpx b
  case staZpx b => exact Agrees.staZpx b
  case stxZpy b => exact Agrees.stxZpy b
  case saxZpy b => exact Agrees.saxZpy b
  case staAby w => exact Agrees.staAby w
  case tas w => exact Agrees.tas w
  case shy w => exact Agrees.shy w
  case staAbx w => exact Agrees.staAbx w
  case shx w => exact Agrees.shx w
  case shaAby w => exact Agrees.shaAby w
  case ldyImm b => exact Agrees.ldyImm b
  case ldaIzx b => exact Agrees.ldaIzx b
  case ldxImm b => exact Agrees.ldxImm b
  case laxIzx b => exact Agrees.laxIzx b
  case ldyZp b => exact Agrees.ldyZp b
  case ldaZp b => exact Agrees.ldaZp b
  case ldxZp b => exact Agrees.ldxZp b
  case laxZp b => exact Agrees.laxZp b
  case ldaImm b => exact Agrees.ldaImm b
  case lxa b => exact Agrees.lxa b
  case ldyAbs w => exact Agrees.ldyAbs w
  case ldaAbs w => exact Agrees.ldaAbs w
  case ldxAbs w => exact Agrees.ldxAbs w
  case laxAbs w => exact Agrees.laxAbs w
  case ldaIzy b => exact Agrees.ldaIzy b
  case laxIzy b => exact Agrees.laxIzy b
  case ldyZpx b => exact Agrees.ldyZpx b
  case ldaZpx b => exact Agrees.ldaZpx b
  case ldxZpy b => exact Agrees.ldxZpy b
  case laxZpy b => exact Agrees.laxZpy b
  case ldaAby w => exact Agrees.ldaAby w
  case las w => exact Agrees.las w
  case ldyAbx w => exact Agrees.ldyAbx w
  case ldaAbx w => exact Agrees.ldaAbx w
  case ldxAby w => exact Agrees.ldxAby w
  case laxAby w => exact Agrees.laxAby w
  case cpyImm b => exact Agrees.cpyImm b
  case cmpIzx b => exact Agrees.cmpIzx b
  case nopImmC2 b => exact Agrees.nopImmC2 b
  case dcpIzx b => exact Agrees.dcpIzx b
  case cpyZp b => exact Agrees.cpyZp b
  case cmpZp b => exact Agrees.cmpZp b
  case decZp b => exact Agrees.decZp b
  case dcpZp b => exact Agrees.dcpZp b
  case cmpImm b => exact Agrees.cmpImm b
  case sbx b => exact Agrees.sbx b
  case cpyAbs w => exact Agrees.cpyAbs w
  case cmpAbs w => exact Agrees.cmpAbs w
  case decAbs w => exact Agrees.decAbs w
  case dcpAbs w => exact Agrees.dcpAbs w
  case cmpIzy b => exact Agrees.cmpIzy b
  case dcpIzy b => exact Agrees.dcpIzy b
  case nopZpxD4 b => exact Agrees.nopZpxD4 b
  case cmpZpx b => exact Agrees.cmpZpx b
  case decZpx b => exact Agrees.decZpx b
  case dcpZpx b => exact Agrees.dcpZpx b
  case cmpAby w => exact Agrees.cmpAby w
  case dcpAby w => exact Agrees.dcpAby w
  case nopAbxDC w => exact Agrees.nopAbxDC w
  case cmpAbx w => exact Agrees.cmpAbx w
  case decAbx w => exact Agrees.decAbx w
  case dcpAbx w => exact Agrees.dcpAbx w
  case cpxImm b => exact Agrees.cpxImm b
  case sbcIzx b => exact Agrees.sbcIzx b
  case nopImmE2 b => exact Agrees.nopImmE2 b
  case isbIzx b => exact Agrees.isbIzx b
  case cpxZp b => exact Agrees.cpxZp b
  case sbcZp b => exact Agrees.sbcZp b
  case incZp b => exact Agrees.incZp b
  case isbZp b => exact Agrees.isbZp b
  case sbcImm b => exact Agrees.sbcImm b
  case usbc b => exact Agrees.usbc b
  case cpxAbs w => exact Agrees.cpxAbs w
  case sbcAbs w => exact Agrees.sbcAbs w
  case incAbs w => exact Agrees.incAbs w
  case isbAbs w => exact Agrees.isbAbs w
  case sbcIzy b => exact Agrees.sbcIzy b
  case isbIzy b => exact Agrees.isbIzy b
  case nopZpxF4 b => exact Agrees.nopZpxF4 b
  case sbcZpx b => exact Agrees.sbcZpx b
  case incZpx b => exact Agrees.incZpx b
  case isbZpx b => exact Agrees.isbZpx b
  case sbcAby w => exact Agrees.sbcAby w
  case isbAby w => exact Agrees.isbAby w
  case nopAbxFC w => exact Agrees.nopAbxFC w
  case sbcAbx w => exact Agrees.sbcAbx w
  case incAbx w => exact Agrees.incAbx w
  case isbAbx w => exact Agrees.isbAbx w
  case bpl off => exact Agrees.bpl off
  case jsr w => exact Agrees.jsr w
  case bmi off => exact Agrees.bmi off
  case jmpAbs w => exact Agrees.jmpAbs w
  case bvc off => exact Agrees.bvc off
  case jmpInd w => exact Agrees.jmpInd w
  case bvs off => exact Agrees.bvs off
  case bcc off => exact Agrees.bcc off
  case bcs off => exact Agrees.bcs off
  case bne off => exact Agrees.bne off
  case beq off => exact Agrees.beq off
  all_goals exact ⟨trivial, .inl rfl⟩

/-- An instruction with an operand does what its row says. -/
theorem exec_rowMeaning {i : Instr} {d : Descriptor} {o : Operand} {f : State → Result} (hd : i.descriptor = some d)
    (ho : i.operand = some o) (hf : rowMeaning d o = some f) (s : State) : exec i s = f s := by
  have h := (agrees i).1
  simp only [hd, ho, Option.bind_some, hf, Option.elim_some] at h
  rw [h]

/-- A branch does what its condition says. -/
theorem exec_branch {i : Instr} {d : Descriptor} {off : Int} (hd : i.descriptor = some d)
    (ho : i.operand = some (.relative off)) (s : State) :
    ∃ c, branchTaken d.mnemonic s.p = some c ∧ exec i s = branchInstr 2 c off s := by
  cases i
  case bpl => cases hd.symm.trans (Instr.descriptor_of 0x10 rfl rfl); cases ho; exact ⟨_, rfl, rfl⟩
  case bmi => cases hd.symm.trans (Instr.descriptor_of 0x30 rfl rfl); cases ho; exact ⟨_, rfl, rfl⟩
  case bvc => cases hd.symm.trans (Instr.descriptor_of 0x50 rfl rfl); cases ho; exact ⟨_, rfl, rfl⟩
  case bvs => cases hd.symm.trans (Instr.descriptor_of 0x70 rfl rfl); cases ho; exact ⟨_, rfl, rfl⟩
  case bcc => cases hd.symm.trans (Instr.descriptor_of 0x90 rfl rfl); cases ho; exact ⟨_, rfl, rfl⟩
  case bcs => cases hd.symm.trans (Instr.descriptor_of 0xB0 rfl rfl); cases ho; exact ⟨_, rfl, rfl⟩
  case bne => cases hd.symm.trans (Instr.descriptor_of 0xD0 rfl rfl); cases ho; exact ⟨_, rfl, rfl⟩
  case beq => cases hd.symm.trans (Instr.descriptor_of 0xF0 rfl rfl); cases ho; exact ⟨_, rfl, rfl⟩
  all_goals cases ho

end Sys2Proof.Machine
end

