-- ==== Sys2Proof/Laws/Keeps.lean ====
section
/-! SUPPORT. What every instruction keeps: the canonical memories, the PPU's counters and NMI output, P.B, the marks and the
launch inputs; and the cycle count never falls. -/

namespace Sys2Proof.Machine

/-- `t` comes from `s` by an operation that keeps what every instruction keeps. -/
structure Keeps (s t : State) : Prop where
  mem      : s.memoriesOk = true → t.memoriesOk = true
  scanline : t.ppu.scanline = s.ppu.scanline
  cycle    : t.ppu.cycle = s.ppu.cycle
  nmiOut   : t.ppu.nmiOut = s.ppu.nmiOut
  brk      : t.p.b = s.p.b
  refused  : t.refused = s.refused
  faulted  : t.faulted = s.faulted
  cart     : t.cart = s.cart
  params   : t.params = s.params
  buttons  : t.buttons = s.buttons
  cycles   : s.cycles ≤ t.cycles

theorem Keeps.refl (s : State) : Keeps s s := ⟨id, rfl, rfl, rfl, rfl, rfl, rfl, rfl, rfl, rfl, le_rfl⟩

theorem Keeps.trans {s t u : State} (h : Keeps s t) (k : Keeps t u) : Keeps s u :=
  ⟨k.mem ∘ h.mem, k.scanline.trans h.scanline, k.cycle.trans h.cycle, k.nmiOut.trans h.nmiOut, k.brk.trans h.brk,
    k.refused.trans h.refused, k.faulted.trans h.faulted, k.cart.trans h.cart, k.params.trans h.params,
    k.buttons.trans h.buttons, h.cycles.trans k.cycles⟩

/-! ### Setters -/

section setters
variable (s : State)
theorem keeps_setA (v : Byte) : Keeps s (s.setA v) := ⟨id, rfl, rfl, rfl, rfl, rfl, rfl, rfl, rfl, rfl, le_rfl⟩
theorem keeps_setX (v : Byte) : Keeps s (s.setX v) := ⟨id, rfl, rfl, rfl, rfl, rfl, rfl, rfl, rfl, rfl, le_rfl⟩
theorem keeps_setY (v : Byte) : Keeps s (s.setY v) := ⟨id, rfl, rfl, rfl, rfl, rfl, rfl, rfl, rfl, rfl, le_rfl⟩
theorem keeps_setSp (v : Byte) : Keeps s (s.setSp v) := ⟨id, rfl, rfl, rfl, rfl, rfl, rfl, rfl, rfl, rfl, le_rfl⟩
theorem keeps_setPc (v : Word) : Keeps s (s.setPc v) := ⟨id, rfl, rfl, rfl, rfl, rfl, rfl, rfl, rfl, rfl, le_rfl⟩
theorem keeps_setFlags {q : Flags} (h : q.b = s.p.b) : Keeps s (s.setFlags q) :=
  ⟨id, rfl, rfl, rfl, h, rfl, rfl, rfl, rfl, rfl, le_rfl⟩
theorem keeps_setNmiPending (b : Bool) : Keeps s (s.setNmiPending b) :=
  ⟨id, rfl, rfl, rfl, rfl, rfl, rfl, rfl, rfl, rfl, le_rfl⟩
theorem keeps_setIrqPending (b : Bool) : Keeps s (s.setIrqPending b) :=
  ⟨id, rfl, rfl, rfl, rfl, rfl, rfl, rfl, rfl, rfl, le_rfl⟩
theorem keeps_setHalted (b : Bool) : Keeps s (s.setHalted b) := ⟨id, rfl, rfl, rfl, rfl, rfl, rfl, rfl, rfl, rfl, le_rfl⟩
theorem keeps_addCycles (n : Nat) : Keeps s (s.addCycles n) :=
  ⟨id, rfl, rfl, rfl, rfl, rfl, rfl, rfl, rfl, rfl, Nat.le_add_right _ _⟩
theorem keeps_setPad (q : Pad) : Keeps s (s.setPad q) := ⟨id, rfl, rfl, rfl, rfl, rfl, rfl, rfl, rfl, rfl, le_rfl⟩
theorem keeps_setDraws (n : Nat) : Keeps s (s.setDraws n) := ⟨id, rfl, rfl, rfl, rfl, rfl, rfl, rfl, rfl, rfl, le_rfl⟩
theorem keeps_setNZ (v : Byte) : Keeps s (s.setNZ v) := keeps_setFlags s rfl
end setters

theorem State.memoriesOk_iff (s : State) : s.memoriesOk = true ↔
    (s.wram.wf = true ∧ s.wram.below 2048 = true) ∧ (s.apu.wf = true ∧ s.apu.all (fun c => isApuAddress c.1) = true) ∧
    (s.ram.wf = true ∧ s.ram.below 65536 = true) ∧ s.ppu.memoriesOk = true ∧ s.cart.wellFormed = true := by
  simp only [State.memoriesOk, Bool.and_eq_true]
  tauto

/-! ### The bus -/

theorem keeps_busRead (k : Word) (s : State) : Keeps s (busRead k s).2 := by
  refine ⟨?_, by simp, by simp, by simp, by simp, by simp, by simp, by simp, by simp, by simp, by simp⟩
  intro h
  have e : (busRead k s).2.ppu.memoriesOk = s.ppu.memoriesOk := by simp [Ppu.memoriesOk]
  rw [State.memoriesOk_iff] at h ⊢
  rw [e]
  simpa using h

theorem keeps_read16 (k : Word) (s : State) : Keeps s (read16 k s).2 :=
  (keeps_busRead k s).trans (keeps_busRead _ _)

theorem keeps_setPpu {s : State} {q : Ppu} (hm : s.ppu.memoriesOk = true → q.memoriesOk = true)
    (h1 : q.scanline = s.ppu.scanline) (h2 : q.cycle = s.ppu.cycle) (h3 : q.nmiOut = s.ppu.nmiOut) :
    Keeps s (s.setPpu q) := by
  refine ⟨?_, h1, h2, h3, rfl, rfl, rfl, rfl, rfl, rfl, le_rfl⟩
  intro h
  rw [State.memoriesOk_iff] at h ⊢
  exact ⟨h.1, h.2.1, h.2.2.1, hm h.2.2.2.1, h.2.2.2.2⟩

theorem keeps_oamDmaByte (page : Byte) (s : State) (i : Nat) : Keeps s (oamDmaByte page s i) := by
  refine (keeps_busRead _ s).trans (keeps_setPpu ?_ rfl rfl rfl)
  intro h
  rw [Ppu.memoriesOk_iff] at h ⊢
  exact ⟨h.1, h.2.1, ⟨Memory.write_wf h.2.2.1.1 _ _, Memory.write_below h.2.2.1.2 (BitVec.isLt _) _⟩, h.2.2.2⟩

theorem keeps_foldl {α : Type} (f : State → α → State) (hf : ∀ s a, Keeps s (f s a)) (l : List α) (s : State) :
    Keeps s (l.foldl f s) := by
  induction l generalizing s with
  | nil => exact Keeps.refl s
  | cons a l ih => exact (hf s a).trans (ih (f s a))

theorem keeps_oamDma (page : Byte) (s : State) : Keeps s (oamDma page s) := by
  unfold oamDma
  cases s.params.oamDmaMode
  · exact Keeps.refl s
  · exact (keeps_foldl _ (keeps_oamDmaByte page) _ s).trans (keeps_addCycles _ _)

/-- The offsets and keys the decoder gives each memory are within its size. -/
theorem region_bounds (s : State) (k : Word) :
    match s.region k with
    | .wram off => off < 2048
    | .apu j => isApuAddress j = true
    | .ram j => j < 65536
    | .ppu _ | .oamDma | .pad1 | .pad2 | .unlisted | .openBus | .prg _ => True := by
  unfold State.region
  cases s.params.busVariant
  · simp only [nesRegion, isApuAddress]
    by_cases h1 : k.toNat < 0x2000
    · simp only [if_pos h1]; omega
    by_cases h2 : k.toNat < 0x4000
    · simp only [if_neg h1, if_pos h2]
    by_cases h3 : k.toNat < 0x4014
    · simp only [if_neg h1, if_neg h2, if_pos h3]
      simp
      omega
    by_cases h4 : k.toNat = 0x4014
    · simp only [if_neg h1, if_neg h2, if_neg h3, if_pos h4]
    by_cases h5 : k.toNat = 0x4015
    · simp only [if_neg h1, if_neg h2, if_neg h3, if_neg h4, if_pos h5]
      simp [h5]
    by_cases h6 : k.toNat = 0x4016
    · simp only [if_neg h1, if_neg h2, if_neg h3, if_neg h4, if_neg h5, if_pos h6]
    by_cases h7 : k.toNat = 0x4017
    · simp only [if_neg h1, if_neg h2, if_neg h3, if_neg h4, if_neg h5, if_neg h6, if_pos h7]
    by_cases h8 : k.toNat < 0x4020
    · simp only [if_neg h1, if_neg h2, if_neg h3, if_neg h4, if_neg h5, if_neg h6, if_neg h7, if_pos h8]
    by_cases h9 : k.toNat < 0x8000
    · simp only [if_neg h1, if_neg h2, if_neg h3, if_neg h4, if_neg h5, if_neg h6, if_neg h7, if_neg h8, if_pos h9]
    simp only [if_neg h1, if_neg h2, if_neg h3, if_neg h4, if_neg h5, if_neg h6, if_neg h7, if_neg h8, if_neg h9]
  · exact k.isLt

theorem keeps_busStore (k : Word) (v : Byte) (s : State) : Keeps s (busStore k v s) := by
  have hb := region_bounds s k
  unfold busStore
  cases hr : s.region k <;> rw [hr] at hb <;> simp only at hb ⊢
  case wram off =>
    refine ⟨?_, rfl, rfl, rfl, rfl, rfl, rfl, rfl, rfl, rfl, le_rfl⟩
    intro h
    rw [State.memoriesOk_iff] at h ⊢
    exact ⟨⟨Memory.write_wf h.1.1 _ _, Memory.write_below h.1.2 hb v⟩, h.2⟩
  case apu j =>
    refine ⟨?_, rfl, rfl, rfl, rfl, rfl, rfl, rfl, rfl, rfl, le_rfl⟩
    intro h
    rw [State.memoriesOk_iff] at h ⊢
    exact ⟨h.1, ⟨Memory.write_wf h.2.1.1 _ _, Memory.write_all h.2.1.2 hb⟩, h.2.2⟩
  case pad2 =>
    refine ⟨?_, rfl, rfl, rfl, rfl, rfl, rfl, rfl, rfl, rfl, le_rfl⟩
    intro h
    rw [State.memoriesOk_iff] at h ⊢
    exact ⟨h.1, ⟨Memory.write_wf h.2.1.1 _ _, Memory.write_all h.2.1.2 rfl⟩, h.2.2⟩
  case ram j =>
    refine ⟨?_, rfl, rfl, rfl, rfl, rfl, rfl, rfl, rfl, rfl, le_rfl⟩
    intro h
    rw [State.memoriesOk_iff] at h ⊢
    exact ⟨h.1, h.2.1, ⟨Memory.write_wf h.2.2.1.1 _ _, Memory.write_below h.2.2.1.2 hb v⟩, h.2.2.2⟩
  case ppu r =>
    exact keeps_setPpu (ppuWrite_memoriesOk _ _ r v) (by simp) (by simp) (by simp)
  case oamDma => exact keeps_oamDma v s
  case pad1 => exact keeps_setPad s _
  all_goals exact Keeps.refl s

/-! ### Operands, stack, interrupts -/

theorem keeps_pageCross (flagged : Bool) (base ea : Word) (s : State) : Keeps s (pageCross flagged base ea s) := by
  unfold pageCross
  split
  · exact keeps_addCycles s 1
  · exact Keeps.refl s

theorem keeps_effectiveAddress (flagged : Bool) (op : Operand) (s : State) :
    Keeps s (effectiveAddress flagged op s).2 := by
  cases op <;> simp only [effectiveAddress, indexed, fetchOperand8, fetchOperand16, zeroPagePointer, indirectTarget]
  case immediate => exact Keeps.refl s
  case zeropage | zeropageX | zeropageY | relative => exact keeps_busRead _ s
  case absolute => exact keeps_read16 _ s
  case absoluteX | absoluteY => exact (keeps_read16 _ s).trans (keeps_pageCross _ _ _ _)
  case indirect => exact ((keeps_read16 _ s).trans (keeps_busRead _ _)).trans (keeps_busRead _ _)
  case indirectX => exact ((keeps_busRead _ s).trans (keeps_busRead _ _)).trans (keeps_busRead _ _)
  case indirectY =>
    exact (((keeps_busRead _ s).trans (keeps_busRead _ _)).trans (keeps_busRead _ _)).trans (keeps_pageCross _ _ _ _)

theorem keeps_readOperand (flagged : Bool) (op : Operand) (s : State) : Keeps s (readOperand flagged op s).2 := by
  by_cases h : ∃ b, op = .immediate b
  · obtain ⟨b, rfl⟩ := h
    exact keeps_busRead _ s
  · rw [readOperand_of_ne flagged s (fun b hb => h ⟨b, hb⟩)]
    exact (keeps_effectiveAddress flagged op s).trans (keeps_busRead _ _)

theorem keeps_advancePc (len : Nat) (snap : Word) (tr : Bool) (s : State) : Keeps s (advancePc len snap tr s) := by
  rw [advancePc_frame]
  exact keeps_setPc s _

theorem keeps_push8 (v : Byte) (s : State) : Keeps s (push8 v s) :=
  (keeps_busStore _ v s).trans (keeps_setSp _ _)

theorem keeps_pop8 (s : State) : Keeps s (pop8 s).2 := (keeps_setSp s _).trans (keeps_busRead _ _)

theorem keeps_push16 (v : Word) (s : State) : Keeps s (push16 v s) := (keeps_push8 _ s).trans (keeps_push8 _ _)

theorem keeps_pop16 (s : State) : Keeps s (pop16 s).2 := (keeps_pop8 s).trans (keeps_pop8 _)

theorem keeps_takeInterrupt (ret : Word) (brk : Bool) (vector : Word) (s : State) :
    Keeps s (takeInterrupt ret brk vector s) := by
  simp only [takeInterrupt]
  refine Keeps.trans ?_ (keeps_setPc _ _)
  refine Keeps.trans ?_ (keeps_read16 _ _)
  refine Keeps.trans ?_ (keeps_setFlags _ rfl)
  exact (keeps_push16 ret s).trans (keeps_push8 _ _)

theorem keeps_serviceNmi (s : State) : Keeps s (serviceNmi s) :=
  ((keeps_setNmiPending s _).trans (keeps_takeInterrupt _ _ _ _)).trans (keeps_addCycles _ _)

theorem keeps_serviceIrq (s : State) : Keeps s (serviceIrq s) :=
  ((keeps_setIrqPending s _).trans (keeps_takeInterrupt _ _ _ _)).trans (keeps_addCycles _ _)

theorem keeps_returnFromInterrupt (s : State) : Keeps s (returnFromInterrupt s) := by
  simp only [returnFromInterrupt]
  refine Keeps.trans ?_ (keeps_setPc _ _)
  refine Keeps.trans ?_ (keeps_pop16 _)
  refine Keeps.trans ?_ (keeps_setFlags _ rfl)
  exact keeps_pop8 s

/-! ### Results -/

/-- A next state keeps what every instruction keeps; a fault or refusal leaves such a state with its mark set, and is
one of the two the spec names (R194, R195). -/
def ResultKeeps (s : State) : Result → Prop
  | .next t => Keeps s t
  | .fault (.busError k t) => ∃ u, Keeps s u ∧ t = u.setFaulted (some k)
  | .fault (.alreadyFaulted _) => False
  | .fault (.unimplementedOpcode _) => False
  | .refused (.refusedOpcode op t) => ∃ u, Keeps s u ∧ t = u.setRefused (some op)
  | .refused _ => False

theorem keeps_impliedInstr (base : Nat) {f : State → State} (hf : ∀ t, Keeps t (f t)) (s : State) :
    ResultKeeps s (impliedInstr base f s) :=
  ((keeps_addCycles s base).trans (hf _)).trans (keeps_advancePc _ _ _ _)

theorem keeps_transferInstr (len base : Nat) {f : State → State} (hf : ∀ t, Keeps t (f t)) (s : State) :
    ResultKeeps s (transferInstr len base f s) :=
  ((keeps_addCycles s base).trans (hf _)).trans (keeps_advancePc _ _ _ _)

theorem keeps_readInstr (base : Nat) (flagged : Bool) (op : Operand) {f : Byte → State → State}
    (hf : ∀ m t, Keeps t (f m t)) (s : State) : ResultKeeps s (readInstr base flagged op f s) :=
  (((keeps_addCycles s base).trans (keeps_readOperand _ _ _)).trans (hf _ _)).trans (keeps_advancePc _ _ _ _)

theorem keeps_writeInstr (base : Nat) (op : Operand) (v : Byte) (s : State) :
    ResultKeeps s (writeInstr base op v s) := by
  have he := (keeps_addCycles s base).trans (keeps_effectiveAddress false op _)
  simp only [writeInstr, busWrite]
  by_cases h : writeFaults (effectiveAddress false op (s.addCycles base)).1
      (effectiveAddress false op (s.addCycles base)).2 = true
  · rw [if_pos h]; exact ⟨_, he, rfl⟩
  · rw [if_neg h]; exact (he.trans (keeps_busStore _ _ _)).trans (keeps_advancePc _ _ _ _)

theorem keeps_rmwInstr (base : Nat) (op : Operand) {f : Byte → Flags → Byte × Flags} {post : Byte → State → State}
    (hf : ∀ m p, (f m p).2.b = p.b) (hp : ∀ m t, Keeps t (post m t)) (s : State) :
    ResultKeeps s (rmwInstr base op f post s) := by
  have he := ((keeps_addCycles s base).trans (keeps_effectiveAddress false op _)).trans
    (keeps_busRead (effectiveAddress false op (s.addCycles base)).1 _)
  simp only [rmwInstr, busWrite]
  by_cases h : writeFaults (effectiveAddress false op (s.addCycles base)).1
      (busRead (effectiveAddress false op (s.addCycles base)).1
        (effectiveAddress false op (s.addCycles base)).2).2 = true
  · rw [if_pos h]; exact ⟨_, he, rfl⟩
  · rw [if_neg h]
    refine (((he.trans (keeps_busStore _ _ _)).trans (keeps_setFlags _ ?_)).trans (hp _ _)).trans
      (keeps_advancePc _ _ _ _)
    rw [hf, busStore_p]

theorem keeps_branchInstr (base : Nat) (c : Bool) (off : Int) (s : State) :
    ResultKeeps s (branchInstr base c off s) := by
  cases c
  · exact (keeps_addCycles s base).trans (keeps_advancePc _ _ _ _)
  · exact ((((keeps_addCycles s base).trans (keeps_effectiveAddress _ _ _)).trans (keeps_addCycles _ _)).trans
      (keeps_setPc _ _)).trans (keeps_advancePc _ _ _ _)

theorem keeps_stubInstr (op : Byte) (base : Nat) (flagged : Bool) (o : Operand) {f : Byte → State → State}
    (hf : ∀ m t, Keeps t (f m t)) (s : State) : ResultKeeps s (stubInstr op base flagged o f s) := by
  unfold stubInstr
  cases s.params.stubPolicy
  · exact ⟨_, keeps_addCycles s base, rfl⟩
  · exact keeps_readInstr base flagged o hf s

theorem keeps_skipInstr (len base : Nat) (s : State) : ResultKeeps s (skipInstr len base s) :=
  (keeps_addCycles s base).trans (keeps_advancePc _ _ _ _)

theorem ite_keeps {c : Prop} [Decidable c] {s t u : State} (h : Keeps s t) (k : Keeps s u) :
    Keeps s (if c then t else u) := by
  split <;> assumption

theorem keeps_nopMemoryInstr (base : Nat) (flagged : Bool) (o : Operand) (s : State) :
    ResultKeeps s (nopMemoryInstr base flagged o s) := by
  refine Keeps.trans ?_ (keeps_advancePc _ _ _ _)
  have hs := keeps_addCycles s base
  exact ite_keeps (hs.trans (keeps_readOperand _ _ _)) (ite_keeps (hs.trans (keeps_effectiveAddress _ _ _)) hs)

/-! ### Every instruction -/

theorem keeps_addA (m : Byte) (s : State) : Keeps s (addA m s) :=
  (keeps_setA s _).trans (keeps_setFlags _ rfl)
theorem keeps_subA (m : Byte) (s : State) : Keeps s (subA m s) :=
  (keeps_setA s _).trans (keeps_setFlags _ rfl)
theorem keeps_loadA (m : Byte) (s : State) : Keeps s (loadA m s) :=
  (keeps_setA s _).trans (keeps_setNZ _ _)
theorem keeps_loadX (m : Byte) (s : State) : Keeps s (loadX m s) :=
  (keeps_setX s _).trans (keeps_setNZ _ _)
theorem keeps_loadY (m : Byte) (s : State) : Keeps s (loadY m s) :=
  (keeps_setY s _).trans (keeps_setNZ _ _)
theorem keeps_loadAX (m : Byte) (s : State) : Keeps s (loadAX m s) :=
  ((keeps_setA s _).trans (keeps_setX _ _)).trans (keeps_setNZ _ _)
theorem keeps_andA (m : Byte) (s : State) : Keeps s (andA m s) :=
  (keeps_setA s _).trans (keeps_setNZ _ _)
theorem keeps_oraA (m : Byte) (s : State) : Keeps s (oraA m s) :=
  (keeps_setA s _).trans (keeps_setNZ _ _)
theorem keeps_eorA (m : Byte) (s : State) : Keeps s (eorA m s) :=
  (keeps_setA s _).trans (keeps_setNZ _ _)
theorem keeps_bitTest (m : Byte) (s : State) : Keeps s (bitTest m s) :=
  keeps_setFlags s rfl
theorem keeps_compareA (m : Byte) (s : State) : Keeps s (compareA m s) :=
  keeps_setFlags s rfl
theorem keeps_compareX (m : Byte) (s : State) : Keeps s (compareX m s) :=
  keeps_setFlags s rfl
theorem keeps_compareY (m : Byte) (s : State) : Keeps s (compareY m s) :=
  keeps_setFlags s rfl
theorem keeps_ancA (m : Byte) (s : State) : Keeps s (ancA m s) :=
  (keeps_setA s _).trans (keeps_setFlags _ rfl)
theorem keeps_alrA (m : Byte) (s : State) : Keeps s (alrA m s) :=
  (keeps_setA s _).trans (keeps_setFlags _ rfl)
theorem keeps_arrA (m : Byte) (s : State) : Keeps s (arrA m s) :=
  (keeps_setA s _).trans (keeps_setFlags _ rfl)
theorem keeps_sbxX (m : Byte) (s : State) : Keeps s (sbxX m s) :=
  (keeps_setX s _).trans (keeps_setFlags _ rfl)
theorem keeps_lasAll (m : Byte) (s : State) : Keeps s (lasAll m s) :=
  (((keeps_setA s _).trans (keeps_setX _ _)).trans (keeps_setSp _ _)).trans (keeps_setNZ _ _)
theorem keeps_noMore (m : Byte) (s : State) : Keeps s (noMore m s) :=
  Keeps.refl s

/-- What a row gives an instruction with an operand. -/
theorem keeps_rowMeaning {d : Descriptor} {o : Operand} {f : State → Result} (hf : rowMeaning d o = some f)
    (s : State) : ResultKeeps s (f s) := by
  unfold rowMeaning at hf
  cases hm : d.mnemonic <;> simp only [hm, Option.some.injEq, reduceCtorEq] at hf
  case lda => subst hf; exact keeps_readInstr _ _ o keeps_loadA s
  case ldx => subst hf; exact keeps_readInstr _ _ o keeps_loadX s
  case ldy => subst hf; exact keeps_readInstr _ _ o keeps_loadY s
  case lax => subst hf; exact keeps_readInstr _ _ o keeps_loadAX s
  case adc => subst hf; exact keeps_readInstr _ _ o keeps_addA s
  case sbc => subst hf; exact keeps_readInstr _ _ o keeps_subA s
  case usbc => subst hf; exact keeps_readInstr _ _ o keeps_subA s
  case and => subst hf; exact keeps_readInstr _ _ o keeps_andA s
  case ora => subst hf; exact keeps_readInstr _ _ o keeps_oraA s
  case eor => subst hf; exact keeps_readInstr _ _ o keeps_eorA s
  case bit => subst hf; exact keeps_readInstr _ _ o keeps_bitTest s
  case cmp => subst hf; exact keeps_readInstr _ _ o keeps_compareA s
  case cpx => subst hf; exact keeps_readInstr _ _ o keeps_compareX s
  case cpy => subst hf; exact keeps_readInstr _ _ o keeps_compareY s
  case sta => subst hf; exact keeps_writeInstr _ o _ s
  case stx => subst hf; exact keeps_writeInstr _ o _ s
  case sty => subst hf; exact keeps_writeInstr _ o _ s
  case sax => subst hf; exact keeps_writeInstr _ o _ s
  case inc => subst hf; exact keeps_rmwInstr _ o (fun _ _ => rfl) (fun m t => keeps_setNZ t m) s
  case dec => subst hf; exact keeps_rmwInstr _ o (fun _ _ => rfl) (fun m t => keeps_setNZ t m) s
  case asl => subst hf; exact keeps_rmwInstr _ o (fun _ _ => rfl) keeps_noMore s
  case lsr => subst hf; exact keeps_rmwInstr _ o (fun _ _ => rfl) keeps_noMore s
  case rol => subst hf; exact keeps_rmwInstr _ o (fun _ _ => rfl) keeps_noMore s
  case ror => subst hf; exact keeps_rmwInstr _ o (fun _ _ => rfl) keeps_noMore s
  case slo => subst hf; exact keeps_rmwInstr _ o (fun _ _ => rfl) keeps_oraA s
  case rla => subst hf; exact keeps_rmwInstr _ o (fun _ _ => rfl) keeps_andA s
  case sre => subst hf; exact keeps_rmwInstr _ o (fun _ _ => rfl) keeps_eorA s
  case rra => subst hf; exact keeps_rmwInstr _ o (fun _ _ => rfl) keeps_addA s
  case dcp => subst hf; exact keeps_rmwInstr _ o (fun _ _ => rfl) keeps_compareA s
  case isb => subst hf; exact keeps_rmwInstr _ o (fun _ _ => rfl) keeps_subA s
  case anc => subst hf; exact keeps_stubInstr _ _ _ o keeps_ancA s
  case alr => subst hf; exact keeps_stubInstr _ _ _ o keeps_alrA s
  case arr => subst hf; exact keeps_stubInstr _ _ _ o keeps_arrA s
  case sbx => subst hf; exact keeps_stubInstr _ _ _ o keeps_sbxX s
  case las => subst hf; exact keeps_stubInstr _ _ _ o keeps_lasAll s
  case nop =>
    split at hf <;> cases hf
    · exact keeps_skipInstr _ _ s
    · exact keeps_nopMemoryInstr _ _ o s
  case ane | lxa | sha | shx | shy | tas => subst hf; exact ⟨_, keeps_addCycles s _, rfl⟩

/-- Every instruction keeps what `Keeps` says, and stops only with `BusError` or `Refused`. -/
theorem exec_keeps (i : Instr) (s : State) : ResultKeeps s (exec i s) := by
  rcases (agrees i).2 with ho | hm | ht
  · cases i
    case brk => exact keeps_transferInstr 1 7 (f := softwareInterrupt) (fun t => keeps_takeInterrupt _ _ _ t) s
    case jam02 => exact (keeps_addCycles s 2).trans (keeps_setHalted _ _)
    case php => exact keeps_impliedInstr _ (f := pushP) (fun t => keeps_push8 _ t) s
    case aslImp => exact keeps_impliedInstr _ (f := shiftA asl) (fun t => (keeps_setA t _).trans (keeps_setFlags _ rfl)) s
    case bpl off => exact keeps_branchInstr 2 _ off s
    case jam12 => exact (keeps_addCycles s 2).trans (keeps_setHalted _ _)
    case clc => exact keeps_impliedInstr _ (f := clearC) (fun t => keeps_setFlags t rfl) s
    case nopImp1A => exact keeps_skipInstr 1 2 s
    case jam22 => exact (keeps_addCycles s 2).trans (keeps_setHalted _ _)
    case plp => exact keeps_impliedInstr _ (f := pullP) (fun t => (keeps_pop8 t).trans (keeps_setFlags _ rfl)) s
    case rolImp => exact keeps_impliedInstr _ (f := shiftA rol) (fun t => (keeps_setA t _).trans (keeps_setFlags _ rfl)) s
    case bmi off => exact keeps_branchInstr 2 _ off s
    case jam32 => exact (keeps_addCycles s 2).trans (keeps_setHalted _ _)
    case sec => exact keeps_impliedInstr _ (f := setC) (fun t => keeps_setFlags t rfl) s
    case nopImp3A => exact keeps_skipInstr 1 2 s
    case rti => exact keeps_transferInstr 1 6 (f := returnFromInterrupt) keeps_returnFromInterrupt s
    case jam42 => exact (keeps_addCycles s 2).trans (keeps_setHalted _ _)
    case pha => exact keeps_impliedInstr _ (f := pushA) (fun t => keeps_push8 _ t) s
    case lsrImp => exact keeps_impliedInstr _ (f := shiftA lsr) (fun t => (keeps_setA t _).trans (keeps_setFlags _ rfl)) s
    case bvc off => exact keeps_branchInstr 2 _ off s
    case jam52 => exact (keeps_addCycles s 2).trans (keeps_setHalted _ _)
    case cli => exact keeps_impliedInstr _ (f := clearI) (fun t => keeps_setFlags t rfl) s
    case nopImp5A => exact keeps_skipInstr 1 2 s
    case rts => exact keeps_transferInstr 1 6 (f := returnFromSubroutine) (fun t => (keeps_pop16 t).trans (keeps_setPc _ _)) s
    case jam62 => exact (keeps_addCycles s 2).trans (keeps_setHalted _ _)
    case pla => exact keeps_impliedInstr _ (f := pullA) (fun t => ((keeps_pop8 t).trans (keeps_setA _ _)).trans (keeps_setNZ _ _)) s
    case rorImp => exact keeps_impliedInstr _ (f := shiftA ror) (fun t => (keeps_setA t _).trans (keeps_setFlags _ rfl)) s
    case bvs off => exact keeps_branchInstr 2 _ off s
    case jam72 => exact (keeps_addCycles s 2).trans (keeps_setHalted _ _)
    case sei => exact keeps_impliedInstr _ (f := setI) (fun t => keeps_setFlags t rfl) s
    case nopImp7A => exact keeps_skipInstr 1 2 s
    case dey => exact keeps_impliedInstr _ (f := decY) (fun t => (keeps_setY t _).trans (keeps_setNZ _ _)) s
    case txa => exact keeps_impliedInstr _ (f := transferXA) (fun t => (keeps_setA t _).trans (keeps_setNZ _ _)) s
    case bcc off => exact keeps_branchInstr 2 _ off s
    case jam92 => exact (keeps_addCycles s 2).trans (keeps_setHalted _ _)
    case tya => exact keeps_impliedInstr _ (f := transferYA) (fun t => (keeps_setA t _).trans (keeps_setNZ _ _)) s
    case txs => exact keeps_impliedInstr _ (f := transferXS) (fun t => keeps_setSp t _) s
    case tay => exact keeps_impliedInstr _ (f := transferAY) (fun t => (keeps_setY t _).trans (keeps_setNZ _ _)) s
    case tax => exact keeps_impliedInstr _ (f := transferAX) (fun t => (keeps_setX t _).trans (keeps_setNZ _ _)) s
    case bcs off => exact keeps_branchInstr 2 _ off s
    case jamB2 => exact (keeps_addCycles s 2).trans (keeps_setHalted _ _)
    case clv => exact keeps_impliedInstr _ (f := clearV) (fun t => keeps_setFlags t rfl) s
    case tsx => exact keeps_impliedInstr _ (f := transferSX) (fun t => (keeps_setX t _).trans (keeps_setNZ _ _)) s
    case iny => exact keeps_impliedInstr _ (f := incY) (fun t => (keeps_setY t _).trans (keeps_setNZ _ _)) s
    case dex => exact keeps_impliedInstr _ (f := decX) (fun t => (keeps_setX t _).trans (keeps_setNZ _ _)) s
    case bne off => exact keeps_branchInstr 2 _ off s
    case jamD2 => exact (keeps_addCycles s 2).trans (keeps_setHalted _ _)
    case cld => exact keeps_impliedInstr _ (f := clearD) (fun t => keeps_setFlags t rfl) s
    case nopImpDA => exact keeps_skipInstr 1 2 s
    case inx => exact keeps_impliedInstr _ (f := incX) (fun t => (keeps_setX t _).trans (keeps_setNZ _ _)) s
    case nop => exact keeps_skipInstr 1 2 s
    case beq off => exact keeps_branchInstr 2 _ off s
    case jamF2 => exact (keeps_addCycles s 2).trans (keeps_setHalted _ _)
    case sed => exact keeps_impliedInstr _ (f := setD) (fun t => keeps_setFlags t rfl) s
    case nopImpFA => exact keeps_skipInstr 1 2 s
    all_goals cases ho
  · obtain ⟨f, hf⟩ := Option.ne_none_iff_exists'.1 hm
    obtain ⟨d, hd, h⟩ := Option.bind_eq_some_iff.1 hf
    obtain ⟨o, ho, hf⟩ := Option.bind_eq_some_iff.1 h
    rw [exec_rowMeaning hd ho hf]
    exact keeps_rowMeaning hf s
  · rcases ht with ⟨off, ho⟩ | ⟨k, rfl | rfl | rfl⟩
    · obtain ⟨d, hd, _⟩ := i.descriptor_matches
      obtain ⟨c, _, he⟩ := exec_branch hd ho s
      rw [he]
      exact keeps_branchInstr 2 c off s
    · exact keeps_transferInstr 3 6 (f := callSubroutine k)
        (fun t => ((keeps_read16 _ t).trans (keeps_push16 _ _)).trans (keeps_setPc _ _)) s
    · exact keeps_transferInstr 3 3 (f := jumpTo (.absolute k))
        (fun t => (keeps_effectiveAddress _ _ t).trans (keeps_setPc _ _)) s
    · exact keeps_transferInstr 3 5 (f := jumpTo (.indirect k))
        (fun t => (keeps_effectiveAddress _ _ t).trans (keeps_setPc _ _)) s

end Sys2Proof.Machine
end

