-- ==== Sys2Proof/Laws/Step.lean ====
section
/-! SUPPORT. One step: what the CPU step keeps, what the PPU's turn changes, and the state after reset. -/

namespace Sys2Proof.Laws

open Sys2Proof.Machine

/-- `State.reset` is the launch of R240 with the empty cartridge and the default parameters. -/
theorem reset_eq_hostReset : State.reset = boot Cart.empty Params.default [] := by rfl

end Sys2Proof.Laws

namespace Sys2Proof.Machine

theorem keeps_fetch (s : State) : Keeps s (fetch s).2 := by
  have h : (fetch s).2 = (fetchOpcode s).2 := by
    simp only [fetch]
    split <;> rfl
  rw [h]
  exact (keeps_busRead s.pc s).trans (keeps_setPc _ _)

theorem ResultKeeps.of_keeps {s t : State} (h : Keeps s t) {r : Result} (hr : ResultKeeps t r) : ResultKeeps s r := by
  cases r with
  | next u => exact h.trans hr
  | fault f =>
    cases f with
    | busError k u => obtain ⟨v, hv, rfl⟩ := hr; exact ⟨v, h.trans hv, rfl⟩
    | alreadyFaulted k => exact hr
    | unimplementedOpcode op => exact hr
  | refused f =>
    cases f with
    | refusedOpcode op u => obtain ⟨v, hv, rfl⟩ := hr; exact ⟨v, h.trans hv, rfl⟩
    | _ => exact hr

/-- A CPU step keeps what every instruction keeps, or meets an opcode without a row. -/
theorem cpuStep_keeps (s : State) : ResultKeeps s (cpuStep s) ∨ ∃ op, cpuStep s = .fault (.unimplementedOpcode op) := by
  unfold cpuStep
  split
  · exact .inl (Keeps.refl s)
  split
  · exact .inl (keeps_serviceNmi s)
  split
  · exact .inl (keeps_serviceIrq s)
  · simp only [runInstruction]
    cases h : (fetch s).1 with
    | ok i => exact .inl (ResultKeeps.of_keeps (keeps_fetch s) (exec_keeps i _))
    | error e => exact .inr ⟨_, rfl⟩

/-- The PPU's turn changes only the PPU and the NMI latch; the PPU's NMI output is left clear. -/
theorem couplePpu_frame (c0 : Nat) (s : State) : couplePpu c0 s = { s with
    ppu := (couplePpu c0 s).ppu, nmiPending := (couplePpu c0 s).nmiPending } := by
  unfold couplePpu
  cases s.params.busVariant <;> simp only
  split <;> rfl

/-- The PPU after its turn, under `Nes`: ticked by three times the cycles elapsed, its NMI output moved to the CPU. -/
theorem couplePpu_ppu {c0 : Nat} {s : State} (h : s.params.busVariant = .nes) :
    (couplePpu c0 s).ppu = { ppuTick s.cart (3 * (s.cycles - c0)) s.ppu with nmiOut := false } := by
  unfold couplePpu
  simp only [h]
  split
  · rfl
  · next hn =>
    generalize ppuTick s.cart (3 * (s.cycles - c0)) s.ppu = q at hn ⊢
    obtain ⟨_, _, _, _, _, _, _, _, _, _, _, _, _, n⟩ := q
    simp only [Bool.not_eq_true] at hn
    subst hn
    rfl

theorem couplePpu_flat {c0 : Nat} {s : State} (h : s.params.busVariant = .flatRam) : couplePpu c0 s = s := by
  unfold couplePpu
  simp only [h]

/-- The PPU's turn keeps the invariant. -/
theorem couplePpu_inv (c0 : Nat) {s : State} (h : s.Inv) : (couplePpu c0 s).Inv := by
  cases hb : s.params.busVariant with
  | flatRam => rw [couplePpu_flat hb]; exact h
  | nes =>
    obtain ⟨hm, hc, hbrk, _⟩ := h
    have hp := couplePpu_ppu (c0 := c0) hb
    rw [couplePpu_frame]
    rw [State.memoriesOk_iff] at hm
    refine ⟨?_, ?_, hbrk, ?_⟩
    · rw [State.memoriesOk_iff]
      refine ⟨hm.1, hm.2.1, hm.2.2.1, ?_, hm.2.2.2.2⟩
      simp only [hp]
      exact ppuTick_memoriesOk _ _ hm.2.2.2.1
    · simp only [hp]
      exact (ppuTick_counters _ _ hc).1
    · simp only [hp]

theorem Keeps.inv {s t : State} (h : Keeps s t) (hi : s.Inv) : t.Inv := by
  obtain ⟨hm, hc, hb, hn⟩ := hi
  refine ⟨h.mem hm, ?_, h.brk.trans hb, h.nmiOut.trans hn⟩
  simp only [Ppu.countersOk] at hc ⊢
  rw [h.scanline, h.cycle]
  exact hc

end Sys2Proof.Machine
end

