-- ==== Sys2Proof/Laws/Frames.lean ====
section
/-! SUPPORT. Memory frames: what leaves every byte of memory as it was, and what a store leaves. -/

namespace Sys2Proof.Machine

/-- `t` has the memories of `s`, behind the same address decoder. -/
structure KeepsMem (s t : State) : Prop where
  wram    : t.wram = s.wram
  apu     : t.apu = s.apu
  ram     : t.ram = s.ram
  cart    : t.cart = s.cart
  params  : t.params = s.params
  vram    : t.ppu.vram = s.ppu.vram
  palette : t.ppu.palette = s.ppu.palette
  oam     : t.ppu.oam = s.ppu.oam
  fb      : t.ppu.fb = s.ppu.fb

theorem KeepsMem.refl (s : State) : KeepsMem s s := ⟨rfl, rfl, rfl, rfl, rfl, rfl, rfl, rfl, rfl⟩

theorem KeepsMem.trans {s t u : State} (h : KeepsMem s t) (k : KeepsMem t u) : KeepsMem s u :=
  ⟨k.wram.trans h.wram, k.apu.trans h.apu, k.ram.trans h.ram, k.cart.trans h.cart, k.params.trans h.params,
    k.vram.trans h.vram, k.palette.trans h.palette, k.oam.trans h.oam, k.fb.trans h.fb⟩

theorem KeepsMem.region {s t : State} (h : KeepsMem s t) (k : Word) : t.region k = s.region k := by
  simp only [State.region, h.params, h.cart]

theorem KeepsMem.storedByte {s t : State} (h : KeepsMem s t) (k : Word) : storedByte t k = storedByte s k := by
  simp only [Machine.storedByte, h.region, h.wram, h.apu, h.ram, h.cart]

theorem KeepsMem.ppu {s t : State} (h : KeepsMem s t) : t.ppu.vram = s.ppu.vram ∧ t.ppu.palette = s.ppu.palette ∧
    t.ppu.oam = s.ppu.oam ∧ t.ppu.fb = s.ppu.fb := ⟨h.vram, h.palette, h.oam, h.fb⟩

section setters
variable (s : State)
theorem keepsMem_setA (v : Byte) : KeepsMem s (s.setA v) := ⟨rfl, rfl, rfl, rfl, rfl, rfl, rfl, rfl, rfl⟩
theorem keepsMem_setX (v : Byte) : KeepsMem s (s.setX v) := ⟨rfl, rfl, rfl, rfl, rfl, rfl, rfl, rfl, rfl⟩
theorem keepsMem_setY (v : Byte) : KeepsMem s (s.setY v) := ⟨rfl, rfl, rfl, rfl, rfl, rfl, rfl, rfl, rfl⟩
theorem keepsMem_setSp (v : Byte) : KeepsMem s (s.setSp v) := ⟨rfl, rfl, rfl, rfl, rfl, rfl, rfl, rfl, rfl⟩
theorem keepsMem_setPc (v : Word) : KeepsMem s (s.setPc v) := ⟨rfl, rfl, rfl, rfl, rfl, rfl, rfl, rfl, rfl⟩
theorem keepsMem_setFlags (q : Flags) : KeepsMem s (s.setFlags q) := ⟨rfl, rfl, rfl, rfl, rfl, rfl, rfl, rfl, rfl⟩
theorem keepsMem_setNmiPending (b : Bool) : KeepsMem s (s.setNmiPending b) := ⟨rfl, rfl, rfl, rfl, rfl, rfl, rfl, rfl, rfl⟩
theorem keepsMem_setIrqPending (b : Bool) : KeepsMem s (s.setIrqPending b) := ⟨rfl, rfl, rfl, rfl, rfl, rfl, rfl, rfl, rfl⟩
theorem keepsMem_setHalted (b : Bool) : KeepsMem s (s.setHalted b) := ⟨rfl, rfl, rfl, rfl, rfl, rfl, rfl, rfl, rfl⟩
theorem keepsMem_addCycles (n : Nat) : KeepsMem s (s.addCycles n) := ⟨rfl, rfl, rfl, rfl, rfl, rfl, rfl, rfl, rfl⟩
theorem keepsMem_setNZ (v : Byte) : KeepsMem s (s.setNZ v) := keepsMem_setFlags s _
end setters

theorem keepsMem_busRead (k : Word) (s : State) : KeepsMem s (busRead k s).2 :=
  ⟨by simp, by simp, by simp, by simp, by simp, by simp, by simp, by simp, by simp⟩

theorem keepsMem_read16 (k : Word) (s : State) : KeepsMem s (read16 k s).2 :=
  (keepsMem_busRead k s).trans (keepsMem_busRead _ _)

theorem keepsMem_pageCross (flagged : Bool) (base ea : Word) (s : State) :
    KeepsMem s (pageCross flagged base ea s) := by
  unfold pageCross
  split
  · exact keepsMem_addCycles s 1
  · exact KeepsMem.refl s

theorem keepsMem_effectiveAddress (flagged : Bool) (op : Operand) (s : State) :
    KeepsMem s (effectiveAddress flagged op s).2 := by
  cases op <;> simp only [effectiveAddress, indexed, fetchOperand8, fetchOperand16, zeroPagePointer, indirectTarget]
  case immediate => exact KeepsMem.refl s
  case zeropage | zeropageX | zeropageY | relative => exact keepsMem_busRead _ s
  case absolute => exact keepsMem_read16 _ s
  case absoluteX | absoluteY => exact (keepsMem_read16 _ s).trans (keepsMem_pageCross _ _ _ _)
  case indirect => exact ((keepsMem_read16 _ s).trans (keepsMem_busRead _ _)).trans (keepsMem_busRead _ _)
  case indirectX => exact ((keepsMem_busRead _ s).trans (keepsMem_busRead _ _)).trans (keepsMem_busRead _ _)
  case indirectY =>
    exact (((keepsMem_busRead _ s).trans (keepsMem_busRead _ _)).trans (keepsMem_busRead _ _)).trans
      (keepsMem_pageCross _ _ _ _)

theorem keepsMem_readOperand (flagged : Bool) (op : Operand) (s : State) :
    KeepsMem s (readOperand flagged op s).2 := by
  by_cases h : ∃ b, op = .immediate b
  · obtain ⟨b, rfl⟩ := h
    exact keepsMem_busRead _ s
  · rw [readOperand_of_ne flagged s (fun b hb => h ⟨b, hb⟩)]
    exact (keepsMem_effectiveAddress flagged op s).trans (keepsMem_busRead _ _)

theorem keepsMem_advancePc (len : Nat) (snap : Word) (tr : Bool) (s : State) :
    KeepsMem s (advancePc len snap tr s) := by
  rw [advancePc_frame]
  exact keepsMem_setPc s _

theorem keepsMem_pop8 (s : State) : KeepsMem s (pop8 s).2 := (keepsMem_setSp s _).trans (keepsMem_busRead _ _)

theorem keepsMem_pop16 (s : State) : KeepsMem s (pop16 s).2 := (keepsMem_pop8 s).trans (keepsMem_pop8 _)

theorem keepsMem_returnFromInterrupt (s : State) : KeepsMem s (returnFromInterrupt s) := by
  simp only [returnFromInterrupt]
  refine KeepsMem.trans ?_ (keepsMem_setPc _ _)
  refine KeepsMem.trans ?_ (keepsMem_pop16 _)
  refine KeepsMem.trans ?_ (keepsMem_setFlags _ _)
  exact keepsMem_pop8 s

/-! ### Stores -/

/-- The APU shadow's key 0x4017 belongs to the gamepad port's address alone. -/
theorem region_apu_ne (s : State) (k : Word) : s.region k ≠ .apu 0x4017 := by
  unfold State.region
  cases s.params.busVariant
  · simp only [nesRegion]
    iterate 2 refine ite_ok (Ok := fun r : Region => r ≠ .apu 0x4017) (fun _ => by simp) ?_
    refine ite_ok (Ok := fun r : Region => r ≠ .apu 0x4017) (fun h => by simp only [ne_eq, Region.apu.injEq]; omega) ?_
    refine ite_ok (Ok := fun r : Region => r ≠ .apu 0x4017) (fun _ => by simp) ?_
    refine ite_ok (Ok := fun r : Region => r ≠ .apu 0x4017) (fun h => by simp only [ne_eq, Region.apu.injEq]; omega) ?_
    iterate 4 refine ite_ok (Ok := fun r : Region => r ≠ .apu 0x4017) (fun _ => by simp) ?_
    simp
  · simp

/-- A store changes no stored byte but the one behind its address. -/
theorem storedByte_busStore {k a : Word} (v : Byte) (s : State) (h : s.region a ≠ s.region k) :
    storedByte (busStore k v s) a = storedByte s a := by
  simp only [storedByte, busStore_region, busStore_cart]
  cases hk : s.region k <;> cases ha : s.region a <;> simp only [busStore, hk] <;> (try rfl)
  case wram.wram off j =>
    rw [hk, ha] at h
    simp only [State.setWram_wram]
    rw [Memory.read_write_other _ _ (fun e => h (by rw [e]))]
  case apu.apu off j =>
    rw [hk, ha] at h
    simp only [State.setApu_apu]
    rw [Memory.read_write_other _ _ (fun e => h (by rw [e]))]
  case apu.pad2 j =>
    have hb : j ≠ 0x4017 := fun e => region_apu_ne s k (e ▸ hk)
    simp only [State.setApu_apu]
    rw [Memory.read_write_other _ _ (Ne.symm hb)]
  case pad2.apu j =>
    have hb : j ≠ 0x4017 := fun e => region_apu_ne s a (e ▸ ha)
    simp only [State.setApu_apu]
    rw [Memory.read_write_other _ _ hb]
  case pad2.pad2 => exact absurd (ha.trans hk.symm) h
  case ram.ram off j =>
    rw [hk, ha] at h
    simp only [State.setRam_ram]
    rw [Memory.read_write_other _ _ (fun e => h (by rw [e]))]
  case oamDma.wram | oamDma.apu | oamDma.pad2 | oamDma.ram => rw [oamDma_frame]

/-- A store outside the PPU registers and OAM DMA keeps PPU memory. -/
theorem busStore_ppuMem {k : Word} (v : Byte) (s : State) (h1 : ∀ r, s.region k ≠ .ppu r) (h2 : s.region k ≠ .oamDma) :
    (busStore k v s).ppu = s.ppu := by
  unfold busStore
  cases hk : s.region k
  case ppu r => exact absurd hk (h1 r)
  case oamDma => exact absurd hk h2
  all_goals rfl

theorem stack_not_device (s : State) (sp : Byte) :
    (∀ r, s.region (stackAddress sp) ≠ .ppu r) ∧ s.region (stackAddress sp) ≠ .oamDma := by
  rw [region_stack]
  cases s.params.busVariant <;> simp

end Sys2Proof.Machine
end

