-- ==== Sys2Proof/Machine/Trace.lean ====
section
/-! DEFINITION. The fields of the trace line (R237). Its text (operand subforms, spacing, letter case, field widths) is
not in the spec and is not modelled (log 19). -/

namespace Sys2Proof.Machine

/-- The operand field `OOOO` (R237): the operand, behind `@` the effective address it resolves to, behind `=` the byte
at that address. -/
structure TraceOperand where
  operand : Operand
  address : Word
  value   : Byte
  deriving DecidableEq, Repr

/-- The operand field of `o` where PC is past the opcode byte, as the instruction would resolve it (R89 to R99). Only
the values are kept: the reads' side effects, and the page-cross cycle, are not the trace's. -/
def traceOperand (o : Operand) (s : State) : TraceOperand :=
  let e := effectiveAddress false o s
  { operand := o, address := e.1, value := (busRead e.1 e.2).1 }

/-- The operand field of what decoding gave; an instruction without an operand has none. -/
def traceOperandOf (r : Except DecodeError (Instr × List Byte)) (s : State) : Option TraceOperand :=
  match r with
  | .error _ => none
  | .ok q => q.1.operand.map fun o => traceOperand o s

/-- The fields of a trace line, in its order. -/
structure TraceRecord where
  pc       : Word
  bytes    : List Byte
  illegal  : Bool
  mnemonic : Mnemonic
  operand  : Option TraceOperand
  a        : Byte
  x        : Byte
  y        : Byte
  p        : Byte
  sp       : Byte
  scanline : Nat
  cycle    : Nat
  cycles   : Nat
  deriving DecidableEq, Repr

/-- The trace record of the instruction at PC, taken before it executes; an observation that changes nothing. -/
def traceRecord (s : State) : Option TraceRecord :=
  let q := fetchOpcode s
  match descriptorAt q.1 with
  | none => none
  | some d => some {
      pc := s.pc
      bytes := (q.1 :: peekOperandBytes q.2).take d.length
      illegal := d.illegal
      mnemonic := d.mnemonic
      operand := traceOperandOf (decode (q.1 :: peekOperandBytes q.2)) q.2
      a := s.a
      x := s.x
      y := s.y
      p := pack s.p s.p.b
      sp := s.sp
      scanline := s.ppu.scanline.toNat
      cycle := s.ppu.cycle.toNat
      cycles := s.cycles }

end Sys2Proof.Machine
end

