-- ==== Sys2Proof/Tests/Slice0.lean ====
section
/-! SUPPORT. Tests of the model against the words of spec/opcode_table.json and the vectors of spec/95_test_vectors.md
(each names its vector; the expected values are the vector's), and a witness of the hypotheses of every statement. -/

namespace Sys2Proof.Tests

-- Each theorem is evaluated before the next begins: evaluations side by side run out of threads.
set_option Elab.async false

open Sys2Proof.Machine

/-! ### Decoding: the word of every row, written from its `match` byte and its operand bytes (R64, R66, R72) -/
/-- The words, each with its width, decode to the instructions. -/
def decodesTo (words : List (Nat × Nat)) (is : List Instr) : Bool :=
  decide (words.map (fun w => decodeTableWord w.1 w.2) = is.map some)

theorem test_decode_row_0 : decodesTo [
    (8, 0x00), (16, 0xFE01), (8, 0x02), (16, 0xFE03), (16, 0x1004), (16, 0x1005), (16, 0x1006), (16, 0x1007),
    (8, 0x08), (16, 0x0509), (8, 0x0A), (16, 0x050B), (24, 0x02340C), (24, 0x02340D), (24, 0x02340E),
    (24, 0x02340F)] [
    .brk, .oraIzx 0xFE, .jam02, .sloIzx 0xFE, .nopZp04 0x10, .oraZp 0x10, .aslZp 0x10, .sloZp 0x10, .php,
    .oraImm 0x05, .aslImp, .ancImm0B 0x05, .nopAbs 0x0234, .oraAbs 0x0234, .aslAbs 0x0234, .sloAbs 0x0234] := by
  decide +kernel

theorem test_decode_row_1 : decodesTo [
    (16, 0x1010), (16, 0x0111), (8, 0x12), (16, 0x0113), (16, 0xFF14), (16, 0xFF15), (16, 0xFF16), (16, 0xFF17),
    (8, 0x18), (24, 0xC0FF19), (8, 0x1A), (24, 0xC0FF1B), (24, 0xC0FF1C), (24, 0xC0FF1D), (24, 0xC0FF1E),
    (24, 0xC0FF1F)] [
    .bpl 16, .oraIzy 0x01, .jam12, .sloIzy 0x01, .nopZpx14 0xFF, .oraZpx 0xFF, .aslZpx 0xFF, .sloZpx 0xFF, .clc,
    .oraAby 0xC0FF, .nopImp1A, .sloAby 0xC0FF, .nopAbx1C 0xC0FF, .oraAbx 0xC0FF, .aslAbx 0xC0FF, .sloAbx 0xC0FF] := by
  decide +kernel

theorem test_decode_row_2 : decodesTo [
    (24, 0x023420), (16, 0xFE21), (8, 0x22), (16, 0xFE23), (16, 0x1024), (16, 0x1025), (16, 0x1026),
    (16, 0x1027), (8, 0x28), (16, 0x0529), (8, 0x2A), (16, 0x052B), (24, 0x02342C), (24, 0x02342D),
    (24, 0x02342E), (24, 0x02342F)] [
    .jsr 0x0234, .andIzx 0xFE, .jam22, .rlaIzx 0xFE, .bitZp 0x10, .andZp 0x10, .rolZp 0x10, .rlaZp 0x10, .plp,
    .andImm 0x05, .rolImp, .ancImm2B 0x05, .bitAbs 0x0234, .andAbs 0x0234, .rolAbs 0x0234, .rlaAbs 0x0234] := by
  decide +kernel

theorem test_decode_row_3 : decodesTo [
    (16, 0x1030), (16, 0x0131), (8, 0x32), (16, 0x0133), (16, 0xFF34), (16, 0xFF35), (16, 0xFF36), (16, 0xFF37),
    (8, 0x38), (24, 0xC0FF39), (8, 0x3A), (24, 0xC0FF3B), (24, 0xC0FF3C), (24, 0xC0FF3D), (24, 0xC0FF3E),
    (24, 0xC0FF3F)] [
    .bmi 16, .andIzy 0x01, .jam32, .rlaIzy 0x01, .nopZpx34 0xFF, .andZpx 0xFF, .rolZpx 0xFF, .rlaZpx 0xFF, .sec,
    .andAby 0xC0FF, .nopImp3A, .rlaAby 0xC0FF, .nopAbx3C 0xC0FF, .andAbx 0xC0FF, .rolAbx 0xC0FF, .rlaAbx 0xC0FF] := by
  decide +kernel

theorem test_decode_row_4 : decodesTo [
    (8, 0x40), (16, 0xFE41), (8, 0x42), (16, 0xFE43), (16, 0x1044), (16, 0x1045), (16, 0x1046), (16, 0x1047),
    (8, 0x48), (16, 0x0549), (8, 0x4A), (16, 0x054B), (24, 0x02344C), (24, 0x02344D), (24, 0x02344E),
    (24, 0x02344F)] [
    .rti, .eorIzx 0xFE, .jam42, .sreIzx 0xFE, .nopZp44 0x10, .eorZp 0x10, .lsrZp 0x10, .sreZp 0x10, .pha,
    .eorImm 0x05, .lsrImp, .alr 0x05, .jmpAbs 0x0234, .eorAbs 0x0234, .lsrAbs 0x0234, .sreAbs 0x0234] := by
  decide +kernel

theorem test_decode_row_5 : decodesTo [
    (16, 0x1050), (16, 0x0151), (8, 0x52), (16, 0x0153), (16, 0xFF54), (16, 0xFF55), (16, 0xFF56), (16, 0xFF57),
    (8, 0x58), (24, 0xC0FF59), (8, 0x5A), (24, 0xC0FF5B), (24, 0xC0FF5C), (24, 0xC0FF5D), (24, 0xC0FF5E),
    (24, 0xC0FF5F)] [
    .bvc 16, .eorIzy 0x01, .jam52, .sreIzy 0x01, .nopZpx54 0xFF, .eorZpx 0xFF, .lsrZpx 0xFF, .sreZpx 0xFF, .cli,
    .eorAby 0xC0FF, .nopImp5A, .sreAby 0xC0FF, .nopAbx5C 0xC0FF, .eorAbx 0xC0FF, .lsrAbx 0xC0FF, .sreAbx 0xC0FF] := by
  decide +kernel

theorem test_decode_row_6 : decodesTo [
    (8, 0x60), (16, 0xFE61), (8, 0x62), (16, 0xFE63), (16, 0x1064), (16, 0x1065), (16, 0x1066), (16, 0x1067),
    (8, 0x68), (16, 0x0569), (8, 0x6A), (16, 0x056B), (24, 0x02346C), (24, 0x02346D), (24, 0x02346E),
    (24, 0x02346F)] [
    .rts, .adcIzx 0xFE, .jam62, .rraIzx 0xFE, .nopZp64 0x10, .adcZp 0x10, .rorZp 0x10, .rraZp 0x10, .pla,
    .adcImm 0x05, .rorImp, .arr 0x05, .jmpInd 0x0234, .adcAbs 0x0234, .rorAbs 0x0234, .rraAbs 0x0234] := by
  decide +kernel

theorem test_decode_row_7 : decodesTo [
    (16, 0x1070), (16, 0x0171), (8, 0x72), (16, 0x0173), (16, 0xFF74), (16, 0xFF75), (16, 0xFF76), (16, 0xFF77),
    (8, 0x78), (24, 0xC0FF79), (8, 0x7A), (24, 0xC0FF7B), (24, 0xC0FF7C), (24, 0xC0FF7D), (24, 0xC0FF7E),
    (24, 0xC0FF7F)] [
    .bvs 16, .adcIzy 0x01, .jam72, .rraIzy 0x01, .nopZpx74 0xFF, .adcZpx 0xFF, .rorZpx 0xFF, .rraZpx 0xFF, .sei,
    .adcAby 0xC0FF, .nopImp7A, .rraAby 0xC0FF, .nopAbx7C 0xC0FF, .adcAbx 0xC0FF, .rorAbx 0xC0FF, .rraAbx 0xC0FF] := by
  decide +kernel

theorem test_decode_row_8 : decodesTo [
    (16, 0x0580), (16, 0xFE81), (16, 0x0582), (16, 0xFE83), (16, 0x1084), (16, 0x1085), (16, 0x1086),
    (16, 0x1087), (8, 0x88), (16, 0x0589), (8, 0x8A), (16, 0x058B), (24, 0x02348C), (24, 0x02348D),
    (24, 0x02348E), (24, 0x02348F)] [
    .nopImm80 0x05, .staIzx 0xFE, .nopImm82 0x05, .saxIzx 0xFE, .styZp 0x10, .staZp 0x10, .stxZp 0x10,
    .saxZp 0x10, .dey, .nopImm89 0x05, .txa, .ane 0x05, .styAbs 0x0234, .staAbs 0x0234, .stxAbs 0x0234,
    .saxAbs 0x0234] := by
  decide +kernel

theorem test_decode_row_9 : decodesTo [
    (16, 0x1090), (16, 0x0191), (8, 0x92), (16, 0x0193), (16, 0xFF94), (16, 0xFF95), (16, 0x8096), (16, 0x8097),
    (8, 0x98), (24, 0xC0FF99), (8, 0x9A), (24, 0xC0FF9B), (24, 0xC0FF9C), (24, 0xC0FF9D), (24, 0xC0FF9E),
    (24, 0xC0FF9F)] [
    .bcc 16, .staIzy 0x01, .jam92, .shaIzy 0x01, .styZpx 0xFF, .staZpx 0xFF, .stxZpy 0x80, .saxZpy 0x80, .tya,
    .staAby 0xC0FF, .txs, .tas 0xC0FF, .shy 0xC0FF, .staAbx 0xC0FF, .shx 0xC0FF, .shaAby 0xC0FF] := by
  decide +kernel

theorem test_decode_row_A : decodesTo [
    (16, 0x05A0), (16, 0xFEA1), (16, 0x05A2), (16, 0xFEA3), (16, 0x10A4), (16, 0x10A5), (16, 0x10A6),
    (16, 0x10A7), (8, 0xA8), (16, 0x05A9), (8, 0xAA), (16, 0x05AB), (24, 0x0234AC), (24, 0x0234AD),
    (24, 0x0234AE), (24, 0x0234AF)] [
    .ldyImm 0x05, .ldaIzx 0xFE, .ldxImm 0x05, .laxIzx 0xFE, .ldyZp 0x10, .ldaZp 0x10, .ldxZp 0x10, .laxZp 0x10,
    .tay, .ldaImm 0x05, .tax, .lxa 0x05, .ldyAbs 0x0234, .ldaAbs 0x0234, .ldxAbs 0x0234, .laxAbs 0x0234] := by
  decide +kernel

theorem test_decode_row_B : decodesTo [
    (16, 0x10B0), (16, 0x01B1), (8, 0xB2), (16, 0x01B3), (16, 0xFFB4), (16, 0xFFB5), (16, 0x80B6), (16, 0x80B7),
    (8, 0xB8), (24, 0xC0FFB9), (8, 0xBA), (24, 0xC0FFBB), (24, 0xC0FFBC), (24, 0xC0FFBD), (24, 0xC0FFBE),
    (24, 0xC0FFBF)] [
    .bcs 16, .ldaIzy 0x01, .jamB2, .laxIzy 0x01, .ldyZpx 0xFF, .ldaZpx 0xFF, .ldxZpy 0x80, .laxZpy 0x80, .clv,
    .ldaAby 0xC0FF, .tsx, .las 0xC0FF, .ldyAbx 0xC0FF, .ldaAbx 0xC0FF, .ldxAby 0xC0FF, .laxAby 0xC0FF] := by
  decide +kernel

theorem test_decode_row_C : decodesTo [
    (16, 0x05C0), (16, 0xFEC1), (16, 0x05C2), (16, 0xFEC3), (16, 0x10C4), (16, 0x10C5), (16, 0x10C6),
    (16, 0x10C7), (8, 0xC8), (16, 0x05C9), (8, 0xCA), (16, 0x05CB), (24, 0x0234CC), (24, 0x0234CD),
    (24, 0x0234CE), (24, 0x0234CF)] [
    .cpyImm 0x05, .cmpIzx 0xFE, .nopImmC2 0x05, .dcpIzx 0xFE, .cpyZp 0x10, .cmpZp 0x10, .decZp 0x10,
    .dcpZp 0x10, .iny, .cmpImm 0x05, .dex, .sbx 0x05, .cpyAbs 0x0234, .cmpAbs 0x0234, .decAbs 0x0234,
    .dcpAbs 0x0234] := by
  decide +kernel

theorem test_decode_row_D : decodesTo [
    (16, 0x10D0), (16, 0x01D1), (8, 0xD2), (16, 0x01D3), (16, 0xFFD4), (16, 0xFFD5), (16, 0xFFD6), (16, 0xFFD7),
    (8, 0xD8), (24, 0xC0FFD9), (8, 0xDA), (24, 0xC0FFDB), (24, 0xC0FFDC), (24, 0xC0FFDD), (24, 0xC0FFDE),
    (24, 0xC0FFDF)] [
    .bne 16, .cmpIzy 0x01, .jamD2, .dcpIzy 0x01, .nopZpxD4 0xFF, .cmpZpx 0xFF, .decZpx 0xFF, .dcpZpx 0xFF, .cld,
    .cmpAby 0xC0FF, .nopImpDA, .dcpAby 0xC0FF, .nopAbxDC 0xC0FF, .cmpAbx 0xC0FF, .decAbx 0xC0FF, .dcpAbx 0xC0FF] := by
  decide +kernel

theorem test_decode_row_E : decodesTo [
    (16, 0x05E0), (16, 0xFEE1), (16, 0x05E2), (16, 0xFEE3), (16, 0x10E4), (16, 0x10E5), (16, 0x10E6),
    (16, 0x10E7), (8, 0xE8), (16, 0x05E9), (8, 0xEA), (16, 0x05EB), (24, 0x0234EC), (24, 0x0234ED),
    (24, 0x0234EE), (24, 0x0234EF)] [
    .cpxImm 0x05, .sbcIzx 0xFE, .nopImmE2 0x05, .isbIzx 0xFE, .cpxZp 0x10, .sbcZp 0x10, .incZp 0x10,
    .isbZp 0x10, .inx, .sbcImm 0x05, .nop, .usbc 0x05, .cpxAbs 0x0234, .sbcAbs 0x0234, .incAbs 0x0234,
    .isbAbs 0x0234] := by
  decide +kernel

theorem test_decode_row_F : decodesTo [
    (16, 0x10F0), (16, 0x01F1), (8, 0xF2), (16, 0x01F3), (16, 0xFFF4), (16, 0xFFF5), (16, 0xFFF6), (16, 0xFFF7),
    (8, 0xF8), (24, 0xC0FFF9), (8, 0xFA), (24, 0xC0FFFB), (24, 0xC0FFFC), (24, 0xC0FFFD), (24, 0xC0FFFE),
    (24, 0xC0FFFF)] [
    .beq 16, .sbcIzy 0x01, .jamF2, .isbIzy 0x01, .nopZpxF4 0xFF, .sbcZpx 0xFF, .incZpx 0xFF, .isbZpx 0xFF, .sed,
    .sbcAby 0xC0FF, .nopImpFA, .isbAby 0xC0FF, .nopAbxFC 0xC0FF, .sbcAbx 0xC0FF, .incAbx 0xC0FF, .isbAbx 0xC0FF] := by
  decide +kernel

/-- R66, R67: two words bit by bit: LDA immediate, 1010 1001, operand 0000 0101; JMP indirect, 0110 1100, operand
0x00FF,
low byte first. -/
theorem test_decode_bits :
    decodeTableWord 16 0b00000101_10101001 = some (.ldaImm 0x05) ∧
    decodeTableWord 24 0b00000000_11111111_01101100 = some (.jmpInd 0x00FF) := by decide +kernel

/-- R66, row Relative: the offset byte is signed. -/
theorem test_decode_offset_ends :
    decodeTableWord 16 0x8010 = some (.bpl (-128)) ∧ decodeTableWord 16 0x7F10 = some (.bpl 127) := by decide +kernel

/-- A word with no bits in its operand bytes reads operands of zero. -/
theorem test_decode_short_word : decodeTableWord 8 0x20 = some (.jsr 0x0000) := by decide +kernel

/-! ### WellFormed: an ill-formed term for each check -/

theorem test_wellFormed_refuses_offset_above : Instr.wellFormed (.bne 128) = false := by decide
theorem test_wellFormed_refuses_offset_below : Instr.wellFormed (.bne (-129)) = false := by decide
theorem test_wellFormed_refuses_prg_beyond_size :
    Cart.wellFormed { Cart.empty with prgSize := .k16, prg := [(0x4000, 1)] } = false := by decide
theorem test_wellFormed_refuses_zero_entry :
    Cart.wellFormed { Cart.empty with prg := [(0, 0)] } = false := by decide
theorem test_wellFormed_refuses_chr_beyond_length :
    Cart.wellFormed { Cart.empty with chr := [(0, 1)] } = false := by decide

/-! ### The vectors' start state (95_test_vectors.md section 0) -/

/-- The PRG ROM of a vector: its bytes at 0x8000, NMI vector 0x9100, reset vector 0x8000, IRQ vector 0x9000. -/
def prgWith (code : List Byte) : Memory :=
  (((Memory.ofBytes 0 code).write 0x7FFB 0x91).write 0x7FFD 0x80).write 0x7FFF 0x90

/-- The default start state of a vector; the service cycles are the vectors' 7. -/
def vector (code : List Byte) : State :=
  let s := State.powerOn { Cart.empty with prg := prgWith code } { Params.default with intServiceCycles := 7 }
  { s with sp := 0xFD, pc := 0x8000, p := { s.p with i := true } }

/-- The byte `v` at work RAM address `a`. -/
def ram (a : Nat) (v : Byte) (s : State) : State := { s with wram := s.wram.write a v }

/-- The same start state with other launch parameters. -/
def under (f : Params → Params) (s : State) : State := { s with params := f s.params }

/-- The step's outcome is a next state, of which `f` sees `v`. -/
def sees {α : Type} [DecidableEq α] (f : State → α) (r : Result) (v : α) : Bool :=
  match r with
  | .next t => decide (f t = v)
  | .fault _ => false
  | .refused _ => false

/-- The state left behind a `Fault(BusError, a)` or a `Refused(op)`. -/
def leaves (r : Result) (t : State) : Bool := decide (stateLeft r = some t) && !sees (fun _ => ()) r ()

/-- A, PC, cycles and the flags Z, N. -/
def accView (t : State) : Byte × Word × Nat × Bool × Bool := (t.a, t.pc, t.cycles, t.p.z, t.p.n)

/-- A and the flags N, V, Z, C. -/
def sumView (t : State) : Byte × Bool × Bool × Bool × Bool := (t.a, t.p.n, t.p.v, t.p.z, t.p.c)

/-- The flags N, Z, C and the byte at 0x0010. -/
def cellView (t : State) : Byte × Bool × Bool × Bool := (t.wram.read 0x10, t.p.n, t.p.z, t.p.c)

/-- PC and cycles. -/
def flowView (t : State) : Word × Nat := (t.pc, t.cycles)

/-- N V B D I Z C. -/
def flags (n v d i z c : Bool) : Flags := ⟨n, v, false, d, i, z, c⟩

/-! ### Loads, stores, transfers, stack -/

/-- V2. -/
theorem test_lda_imm :
    sees accView (step (vector [0xA9, 0x80])) (0x80, 0x8002, 2, false, true) := by decide +kernel
/-- V10: `(zp),Y` crosses a page. -/
theorem test_lda_izy_page_cross :
    sees accView (step (ram 0x20 0xF8 (ram 0x21 0x02 (ram 0x308 0xAB
      { vector [0xB1, 0x20] with y := 0x10 })))) (0xAB, 0x8002, 6, false, true) := by decide +kernel
/-- V12: `zp,Y` wraps in page 0. -/
theorem test_ldx_zpy_wraps :
    sees (fun t => (t.x, t.cycles)) (step (ram 1 0x80 { vector [0xB6, 0xFF] with y := 2 })) (0x80, 4) := by
  decide +kernel
/-- V13. -/
theorem test_ldy_abx_zero :
    sees (fun t => (t.y, t.p.z, t.cycles)) (step { vector [0xBC, 0x00, 0x04] with y := 9 }) (0, true, 4) := by
  decide +kernel
/-- V15: 0x0801 is a mirror of work RAM, and the store never takes the page-cross cycle. -/
theorem test_sta_abx_mirror :
    sees (fun t => (t.wram.read 1, t.cycles)) (step { vector [0x9D, 0xFF, 0x07] with a := 0x11, x := 2 })
      (0x11, 5) := by
  decide +kernel
/-- V17. -/
theorem test_stx_zpy :
    sees (fun t => t.wram.read 2) (step { vector [0x96, 0xFF] with x := 0x5A, y := 3 }) 0x5A := by
  decide +kernel
/-- V18. -/
theorem test_sty_zpx :
    sees (fun t => t.wram.read 0x10) (step { vector [0x94, 0x80] with y := 0x77, x := 0x90 }) 0x77 := by
  decide +kernel
/-- V19. -/
theorem test_sta_prg_faults :
    leaves (step { vector [0x8D, 0x00, 0x80] with a := 1 })
      { vector [0x8D, 0x00, 0x80] with a := 1, pc := 0x8001, cycles := 4, faulted := some 0x8000 } := by
  decide +kernel
/-- V20. -/
theorem test_sta_prg_ignored :
    sees flowView (step (under (fun p => { p with prgWritePolicy := .ignore }) (vector [0x8D, 0x00, 0x80])))
      (0x8003, 4) := by
  decide +kernel
/-- V21 to V24. -/
theorem test_tax_tay_txa_tya :
    sees (fun t => (t.x, t.p.z)) (step { vector [0xAA] with x := 0x55 }) (0, true) ∧
    sees (fun t => (t.y, t.p.n)) (step { vector [0xA8] with a := 0xFF }) (0xFF, true) ∧
    sees (fun t => t.a) (step { vector [0x8A] with x := 0x42 }) 0x42 ∧
    sees (fun t => (t.a, t.p.n)) (step { vector [0x98] with y := 0x80 }) (0x80, true) := by decide +kernel
/-- V25, V26: TXS writes no flag. -/
theorem test_tsx_txs :
    sees (fun t => (t.x, t.p.n)) (step (vector [0xBA])) (0xFD, true) ∧
    sees (fun t => (t.sp, t.p)) (step { vector [0x9A] with p := flags true false false true false false })
      (0x00, flags true false false true false false) := by
  decide +kernel
/-- V28, V30: SP wraps. -/
theorem test_pha_pla_wrap :
    sees (fun t => (t.sp, t.wram.read 0x100)) (step { vector [0x48] with a := 0x33, sp := 0 }) (0xFF, 0x33) ∧
    sees (fun t => (t.sp, t.a, t.p.n)) (step (ram 0x100 0x90 { vector [0x68] with sp := 0xFF }))
      (0x00, 0x90, true) := by
  decide +kernel
/-- V31, V32. -/
theorem test_php_plp :
    sees (fun t => t.wram.read 0x1FD) (step { vector [0x08] with p := flags true false false true false true }) 0xB5 ∧
    sees (fun t => t.p) (step (ram 0x1FD 0xFF { vector [0x28] with sp := 0xFC }))
      (flags true true true true true true) := by
  decide +kernel

/-! ### Arithmetic, logic, compare, increment, shift -/

/-- V35: 0x80 + 0x80. -/
theorem test_adc_overflow :
    sees sumView (step { vector [0x69, 0x80] with a := 0x80 }) (0, false, true, true, true) := by decide +kernel
/-- V38: no decimal mode. -/
theorem test_adc_ignores_decimal :
    sees sumView (step { vector [0x69, 0x01] with a := 9, p := flags false false true true false false })
      (0x0A, false, false, false, false) := by
  decide +kernel
/-- V42: a borrow from C = 0. -/
theorem test_sbc_borrow :
    sees sumView (step { vector [0xE9, 0x05] with a := 5 }) (0xFF, true, false, false, false) := by
  decide +kernel
/-- V44: 0x7F - (-1) overflows. -/
theorem test_sbc_overflow :
    sees sumView (step { vector [0xE9, 0xFF] with a := 0x7F, p := flags false false false true false true })
      (0x80, true, true, false, false) := by
  decide +kernel
/-- V45 to V47. -/
theorem test_and_ora_eor :
    sees accView (step { vector [0x29, 0x0F] with a := 0xF0 }) (0, 0x8002, 2, true, false) ∧
    sees accView (step { vector [0x09, 0x80] with a := 1 }) (0x81, 0x8002, 2, false, true) ∧
    sees accView (step { vector [0x49, 0xFF] with a := 0xFF }) (0, 0x8002, 2, true, false) := by decide +kernel
/-- V48. -/
theorem test_bit :
    sees sumView (step (ram 0x10 0xC0 { vector [0x24, 0x10] with a := 1 })) (1, true, true, true, false) := by
  decide +kernel
/-- V52, V53: V stays. -/
theorem test_cmp :
    sees sumView (step { vector [0xC9, 0x00] with a := 0x80 }) (0x80, true, false, false, true) ∧
    sees sumView (step { vector [0xC9, 0x03] with a := 5, p := flags false true false true false false })
      (5, false, true, false, true) := by
  decide +kernel
/-- V54, V55. -/
theorem test_cpx_cpy :
    sees cellView (step { vector [0xE0, 0x0A] with x := 0x0A }) (0, false, true, true) ∧
    sees cellView (step (vector [0xC0, 0x01])) (0, true, false, false) := by decide +kernel
/-- V57, V58. -/
theorem test_inc_dec :
    sees cellView (step (ram 0x10 0xFF (vector [0xE6, 0x10]))) (0, false, true, false) ∧
    sees cellView (step (vector [0xC6, 0x10])) (0xFF, true, false, false) := by decide +kernel
/-- V59: a read-modify-write of PRG ROM leaves the flags. -/
theorem test_inc_prg_faults :
    leaves (step (vector [0xEE, 0x00, 0x80]))
      { vector [0xEE, 0x00, 0x80] with pc := 0x8001, cycles := 6, faulted := some 0x8000 } := by decide +kernel
/-- V60 to V63. -/
theorem test_inx_iny_dex_dey :
    sees (fun t => (t.x, t.p.z)) (step { vector [0xE8] with x := 0xFF }) (0, true) ∧
    sees (fun t => (t.y, t.p.n)) (step { vector [0xC8] with y := 0x7F }) (0x80, true) ∧
    sees (fun t => (t.x, t.p.n)) (step (vector [0xCA])) (0xFF, true) ∧
    sees (fun t => (t.y, t.p.z)) (step { vector [0x88] with y := 1 }) (0, true) := by decide +kernel
/-- V65 to V68. -/
theorem test_shift_accumulator :
    sees sumView (step { vector [0x0A] with a := 0x80 }) (0, false, false, true, true) ∧
    sees sumView (step { vector [0x4A] with a := 0x81 }) (0x40, false, false, false, true) ∧
    sees sumView (step { vector [0x2A] with a := 0x80, p := flags false false false true false true })
      (1, false, false, false, true) ∧
    sees sumView (step { vector [0x6A] with a := 1, p := flags false false false true false true })
      (0x80, true, false, false, true) := by
  decide +kernel
/-- V70, V72, V73. -/
theorem test_shift_memory :
    sees cellView (step (ram 0x10 0xC0 (vector [0x06, 0x10]))) (0x80, true, false, true) ∧
    sees cellView (step { vector [0x26, 0x10] with p := flags false false false true false true })
      (1, false, false, false) ∧
    sees cellView (step (ram 0x10 2 { vector [0x76, 0x0F] with x := 1, p := flags false false false true false true
      })) (0x81, true, false, false) := by
  decide +kernel
/-- V71: 7 cycles, no page-cross cycle. -/
theorem test_lsr_abx :
    sees (fun t => (t.wram.read 0x2FF, t.cycles)) (step (ram 0x2FF 2 { vector [0x5E, 0x00, 0x02] with x := 0xFF }))
      (1, 7) := by
  decide +kernel

/-! ### Control flow, flags, NOP, JAM -/

/-- V74, V76, V78, V80, V82, V84, V86, V88: each branch taken. -/
theorem test_branches_taken :
    sees flowView (step (vector [0x10, 0x10])) (0x8012, 3) ∧
    sees flowView (step { vector [0x30, 0x10] with p := flags true false false true false false }) (0x8012, 3) ∧
    sees flowView (step (vector [0x50, 0x10])) (0x8012, 3) ∧
    sees flowView (step { vector [0x70, 0x10] with p := flags false true false true false false }) (0x8012, 3) ∧
    sees flowView (step (vector [0x90, 0x10])) (0x8012, 3) ∧
    sees flowView (step { vector [0xB0, 0x10] with p := flags false false false true false true }) (0x8012, 3) ∧
    sees flowView (step (vector [0xD0, 0x10])) (0x8012, 3) ∧
    sees flowView (step { vector [0xF0, 0x10] with p := flags false false false true true false }) (0x8012, 3) := by
  decide +kernel
/-- V75, V85: not taken. V90: taken to another page. -/
theorem test_branch_cycles :
    sees flowView (step { vector [0x10, 0x10] with p := flags true false false true false false }) (0x8002, 2) ∧
    sees flowView (step (vector [0xB0, 0x10])) (0x8002, 2) ∧
    sees flowView (step (vector [0xD0, 0x80])) (0x7F82, 4) := by decide +kernel
/-- V92, V93: the target is the offset byte. -/
theorem test_branch_to_offset_byte :
    sees flowView (step (vector [0xD0, 0xFF])) (0x8001, 3) ∧
    sees flowView (step (under (fun p => { p with pcAdvanceRule := .bySnapshot }) (vector [0xD0, 0xFF])))
      (0x8002, 3) := by
  decide +kernel
/-- V94, V96: the pointer's high byte comes from its own page. -/
theorem test_jmp :
    sees flowView (step (vector [0x4C, 0x00, 0xC0])) (0xC000, 3) ∧
    sees flowView (step (ram 0x200 0x90 (ram 0x300 0x55 (vector [0x6C, 0xFF, 0x02])))) (0x9000, 5) := by
  decide +kernel
/-- V99, V100. -/
theorem test_jsr_rts :
    sees (fun t => (t.sp, t.pc, t.wram.read 0x1FC, t.wram.read 0x1FD)) (step (vector [0x20, 0x00, 0x90]))
      (0xFB, 0x9000, 0x02, 0x80) ∧
    sees (fun t => (t.sp, t.pc)) (step (ram 0x1FC 0x02 (ram 0x1FD 0x80 { vector [0x60] with sp := 0xFB })))
      (0xFD, 0x8003) := by
  decide +kernel
/-- V103. -/
theorem test_brk :
    sees (fun t => (t.sp, t.pc, t.p.i, t.wram.read 0x1FB, t.wram.read 0x1FC, t.wram.read 0x1FD))
      (step { vector [0x00] with p := flags true false false false false true })
        (0xFA, 0x9000, true, 0xB1, 0x02, 0x80) := by
  decide +kernel
/-- V104. -/
theorem test_rti :
    sees (fun t => (t.sp, t.pc, t.p)) (step (ram 0x1FB 0xFF (ram 0x1FD 0x90 { vector [0x40] with sp := 0xFA })))
      (0xFD, 0x9000, flags true true true true true true) := by
  decide +kernel
/-- V105 to V111. -/
theorem test_flag_instructions :
    sees (fun t => t.p.c) (step { vector [0x18] with p := flags false false false true false true }) false ∧
    sees (fun t => t.p.c) (step (vector [0x38])) true ∧
    sees (fun t => t.p.i) (step (vector [0x58])) false ∧
    sees (fun t => t.p.i) (step { vector [0x78] with p := flags false false false false false false }) true ∧
    sees (fun t => t.p.v) (step { vector [0xB8] with p := flags false true false true false false }) false ∧
    sees (fun t => t.p.d) (step { vector [0xD8] with p := flags false false true true false false }) false ∧
    sees (fun t => t.p.d) (step (vector [0xF8])) true := by decide +kernel
/-- V112, V126, V129 (0x2002 is not read), V130 (page cross). -/
theorem test_nop :
    sees flowView (step (vector [0xEA])) (0x8001, 2) ∧
    sees flowView (step (vector [0x80, 0x55])) (0x8002, 2) ∧
    sees (fun t => (t.pc, t.ppu.vblank))
      (step { vector [0x0C, 0x02, 0x20] with ppu := { Ppu.powerOn with vblank := true } }) (0x8003, true) ∧
    sees flowView (step { vector [0x1C, 0xFF, 0x80] with x := 1 }) (0x8003, 5) := by decide +kernel
/-- V132, V158. -/
theorem test_jam :
    sees (fun t => (t.pc, t.halted, t.cycles)) (step (vector [0x02])) (0x8001, true, 2) ∧
    sees (fun t => (t.pc, t.nmiPending, t.cycles)) (step { vector [0x02] with nmiPending := true, halted := true })
      (0x8000, true, 0) := by
  decide +kernel

/-! ### Undocumented instructions -/

/-- V113 to V115. -/
theorem test_slo_rla_sre :
    sees sumView (step (ram 0x10 0x81 { vector [0x07, 0x10] with a := 1 })) (3, false, false, false, true) ∧
    sees sumView (step (ram 0x10 0x80 { vector [0x27, 0x10] with
      a := 0xFF, p := flags false false false true false true })) (1, false, false, false, true) ∧
    sees sumView (step (ram 0x10 3 { vector [0x47, 0x10] with a := 1 })) (0, false, false, true, true) := by
  decide +kernel
/-- V116 to V118. -/
theorem test_rra_dcp_isb :
    sees sumView (step (ram 0x10 2 { vector [0x67, 0x10] with
      a := 0x10, p := flags false false false true false true })) (0x91, true, false, false, false) ∧
    sees cellView (step (ram 0x10 6 { vector [0xC7, 0x10] with a := 5 })) (5, false, true, true) ∧
    sees sumView (step (ram 0x10 0xFF { vector [0xE7, 0x10] with
      a := 5, p := flags false false false true false true })) (5, false, false, false, true) := by decide +kernel
/-- V121, V122, V124. -/
theorem test_lax_sax_usbc :
    sees (fun t => (t.a, t.x, t.cycles)) (step (ram 0x300 1 { vector [0xBF, 0xFF, 0x02] with y := 1 })) (1, 1, 5) ∧
    sees cellView (step { vector [0x87, 0x10] with a := 0xF0, x := 0x3C }) (0x30, false, false, false) ∧
    sees sumView (step { vector [0xEB, 0x01] with a := 0x10, p := flags false false false true false true })
      (0x0F, false, false, false, true) := by
  decide +kernel
/-- V135, V148. -/
theorem test_stubs_refused :
    leaves (step (vector [0x0B, 0x80])) { vector [0x0B, 0x80] with pc := 0x8001, cycles := 2, refused := some 0x0B } ∧
    leaves (step (vector [0x93, 0x10])) { vector [0x93, 0x10] with pc := 0x8001, cycles := 6, refused := some 0x93 }
      := by
  decide +kernel
/-- V141 to V145: the stable five under `Nmos`. -/
theorem test_stubs_under_nmos :
    sees sumView (step (under (fun p => { p with stubPolicy := .nmos }) { vector [0x0B, 0x80] with a := 0xFF }))
      (0x80, true, false, false, true) ∧
    sees sumView (step (under (fun p => { p with stubPolicy := .nmos }) { vector [0x4B, 0x03] with a := 0xFF }))
      (1, false, false, false, true) ∧
    sees sumView (step (under (fun p => { p with stubPolicy := .nmos })
      { vector [0x6B, 0xFF] with a := 0xFF, p := flags false false false true false true }))
        (0xFF, true, false, false, true) ∧
    sees (fun t => (t.x, t.p.c)) (step (under (fun p => { p with stubPolicy := .nmos })
      { vector [0xCB, 0x01] with a := 0xFF, x := 0x0F })) (0x0E, true) ∧
    sees (fun t => (t.a, t.x, t.sp)) (step (under (fun p => { p with stubPolicy := .nmos })
      (ram 0x200 0xF0 (vector [0xBB, 0x00, 0x02])))) (0xF0, 0xF0, 0xF0) := by decide +kernel

/-! ### Interrupts, PPU, bus, gamepad -/

/-- V153, V155. -/
theorem test_nmi_and_masked_irq :
    sees (fun t => (t.pc, t.sp, t.nmiPending, t.wram.read 0x1FB, t.cycles))
      (step { vector [0xEA] with nmiPending := true }) (0x9100, 0xFA, false, 0x24, 7) ∧
    sees (fun t => (t.pc, t.irqPending)) (step { vector [0xEA] with irqPending := true }) (0x8001, true) := by
  decide +kernel
/-- V154. -/
theorem test_irq :
    sees (fun t => (t.pc, t.p.i, t.irqPending, t.wram.read 0x1FB))
      (step { vector [0xEA] with irqPending := true, p := flags false false false false false true })
        (0x9000, true, false, 0x21) := by
  decide +kernel
/-- V161: a STATUS read in vblank. -/
theorem test_status_read :
    sees (fun t => (t.a, t.ppu.vblank, t.ppu.latch, t.ppu.databus)) (step { vector [0xAD, 0x02, 0x20] with
      ppu := { Ppu.powerOn with vblank := true, databus := 0x1F, latch := 0x1234 } }) (0x9F, false, 0, 0x9F) := by
  decide +kernel
/-- V166, V168: the shared latch; a DATA write under Horizontal mirroring. -/
theorem test_ppu_writes :
    sees (fun t => t.ppu.latch) (step { vector [0x8D, 0x05, 0x20] with
      a := 0x10, ppu := { Ppu.powerOn with latch := 0x2108 } }) 0x0810 ∧
    (let s := { vector [0x8D, 0x07, 0x20] with a := 0x5A, ppu := { Ppu.powerOn with latch := 0x2C08 } }
     sees (fun t => (t.ppu.vram.read 0x408, t.ppu.latch)) (step { s with
       cart := { s.cart with mirroring := .horizontal } }) (0x5A, 0x2C09)) := by decide +kernel
/-- V177: a palette read is direct and fills the buffer from below. -/
theorem test_palette_read :
    sees (fun t => (t.a, t.ppu.readBuffer)) (step { vector [0xAD, 0x07, 0x20] with
      ppu := { Ppu.powerOn with latch := 0x3F01, palette := [(1, 0x21)], vram := [(0x701, 0x77)] } })
        (0x21, 0x77) := by
  decide +kernel
/-- V197: under `FlatRam` 0x8000 is plain RAM. -/
theorem test_flat_ram_store :
    sees (fun t => t.ram.read 0x8000) (step { (under (fun p => { p with busVariant := .flatRam }) (vector [])) with
      a := 1, ram := [(0x8000, 0x8D), (0x8002, 0x80)] }) 1 := by decide +kernel
/-- T1, T3: vblank and NMI at 241, the wrap at 262. -/
theorem test_ppu_tick :
    (let p := ppuTick Cart.empty 1 { Ppu.powerOn with scanline := 240, cycle := 340, ctrl := 0x80 }
     (p.scanline, p.cycle, p.vblank, p.nmiOut)) = (241, 0, true, true) ∧
    (let p := ppuTick Cart.empty 1 { Ppu.powerOn with scanline := 261, cycle := 340, vblank := true }
     (p.scanline, p.cycle, p.vblank)) = (0, 0, false) := by decide +kernel
/-- G2, and G6 at the bus: continuous A while strobed, then the latched A. -/
theorem test_gamepad :
    (let s := busStore 0x4016 1 { vector [] with buttons := 0x85 }
     ((busRead 0x4016 s).1, (busRead 0x4016 (busRead 0x4016 s).2).1)) = (1, 1) ∧
    (let q := busRead 0x4016 { vector [] with buttons := 0x85, pad := ⟨false, 0, 0x85⟩ }
     (q.1, q.2.pad.index)) = (1, 1) := by decide +kernel

/-- T4 and R224: a tick of a whole frame wraps the scanline counter once, though it ends where it began; one cycle
less
does not, and a step that ends with a mark has no tick. -/
theorem test_frame_complete :
    Ppu.powerOn.frameWraps 89342 = 1 ∧ Ppu.powerOn.frameWraps 89341 = 0 ∧
    frameComplete (vector []) (.next { vector [] with cycles := 29781 }) = true ∧
    frameComplete (vector []) (.next { vector [] with cycles := 29780 }) = false ∧
    frameComplete (vector []) (.fault (.busError 0x8000 { vector [] with cycles := 29781 })) = false := by
  decide +kernel
/-- S8: the fields of the trace line. -/
theorem test_trace_fields :
    traceRecord { vector [] with
      pc := 0x1234, a := 1, x := 2, y := 3, sp := 0xFA, p := flags false false false false false true, cycles :=
        654321 }
      = some {
        pc := 0x1234, bytes := [0x00], illegal := false, mnemonic := .brk, operand := none, a := 1, x := 2, y := 3
        p := 0x21, sp := 0xFA, scanline := 0, cycle := 0, cycles := 654321 } := by decide +kernel
/-- R237 on S3's instruction: the operand, the address behind `@`, the byte behind `=`. -/
theorem test_trace_operand :
    (traceRecord (ram 0xFF 0x50 (ram 0 0x01 (ram 0x150 0x05 (vector [0xA1, 0xFF]))))).bind (·.operand)
      = some ⟨.indirectX 0xFF, 0x0150, 0x05⟩ := by decide +kernel

/-! ### Assembler and cartridge -/

/-- A9, A14, A16, A25. -/
theorem test_assembler_bytes :
    assembleText "LDA $0012,Y" = .ok [0xB9, 0x12, 0x00] ∧
    assembleText "loop: DEX\nBNE loop" = .ok [0xCA, 0xD0, 0xFD] ∧
    assembleText "BNE $8000" = .ok [0xD0, 0xFE] ∧ assembleText "NOP #$01" = .ok [0x80, 0x01] := by decide +kernel
/-- N5, N6, N9: refused images. -/
theorem test_admission_errors :
    admitImage [0x4E, 0x45, 0x53, 0x00, 2, 1, 1, 0, 0, 0, 0, 0, 0, 0, 0, 0] = .error .badMagic ∧
    admitImage [0x4E, 0x45, 0x53, 0x1A, 1, 0, 0x10, 0, 0, 0, 0, 0, 0, 0, 0, 0] = .error .unsupportedMapper ∧
    admitImage [0x4E, 0x45, 0x53, 0x1A, 0, 0, 0, 0, 0, 0, 0, 0, 0, 0, 0, 0] = .error .unsupportedPrgSize := by
  decide +kernel


/-! ### Witnesses: for each statement with hypotheses, values that meet them together, clause by clause -/

/-- The mnemonic of `i`, where it has a descriptor and an operand. -/
def named (i : Instr) : Option Mnemonic :=
  match i.descriptor, i.operand with
  | some d, some _ => some d.mnemonic
  | _, _ => none

/-- The mnemonic and the effective address of `i` in `s`, as the statements compute it. -/
def target (s : State) (i : Instr) : Option (Mnemonic × Word) :=
  match i.descriptor, i.operand with
  | some d, some o => some (d.mnemonic, (effectiveAddress d.addCycleOnPageCross o (s.addCycles d.baseCycles)).1)
  | _, _ => none

/-- `s` is a state in which an instruction runs (no mark, not halted, no interrupt due). -/
def runs (s : State) : Bool := s.unmarked && !s.halted && !s.nmiPending && !(s.irqPending && !s.p.i)

/-- The invariant, as a check. -/
def invOk (s : State) : Bool := s.memoriesOk && s.ppu.countersOk && !s.p.b && !s.ppu.nmiOut

/-- A start state with PRG writes faulting, its memory not empty, PC on `code`. -/
def sample (code : List Byte) : State := ram 0x7FF 0x33 (ram 0x10 0x80 (vector code))

theorem witness_DecodeInvertsEncode :
    Instr.wellFormed (.bpl (-128)) ∧ Instr.wellFormed (.beq 127) ∧ Instr.wellFormed (.ldaAbs 0xFFFF) := by decide
theorem witness_EncodeInvertsDecode :
    decode [0xAD, 0xFF, 0xFF, 0x00] = .ok (.ldaAbs 0xFFFF, [0x00]) ∧ decode [0x10, 0x80] = .ok (.bpl (-128), []) := by
  decide +kernel
/-- A fetch with no request, and one with a masked IRQ; a PPU's turn under each bus variant. -/
theorem witness_StepRunsDecodedInstruction :
    let s := sample [0xA9, 0x05]
    let t := { s with irqPending := true }
    runs s ∧ runs t ∧ t.irqPending ∧ t.p.i ∧ s.params.busVariant = .nes ∧
    (under (fun p => { p with busVariant := .flatRam }) s).params.busVariant = .flatRam ∧
    decode ((busRead s.pc s).1 :: peekOperandBytes ((busRead s.pc s).2.setPc (s.pc + 1))) = .ok (.ldaImm 5, [0]) ∧
    decode ((busRead t.pc t).1 :: peekOperandBytes ((busRead t.pc t).2.setPc (t.pc + 1))) = .ok (.ldaImm 5, [0]) := by
  decide +kernel
/-- A step with a next state, one that faults and one that is refused. -/
theorem witness_InvariantKeptByStep :
    invOk (sample [0xE6, 0x10]) ∧ (stateLeft (step (sample [0xE6, 0x10]))).isSome ∧
    invOk (sample [0xEE, 0x00, 0x80]) ∧ (stateLeft (step (sample [0xEE, 0x00, 0x80]))).isSome ∧
    invOk (sample [0x8B, 0x00]) ∧ (stateLeft (step (sample [0x8B, 0x00]))).isSome := by decide +kernel
theorem witness_ReachableStatesKeepInvariant :
    Reachable (applyMove .irqRequest (boot Cart.empty Params.default [(0x8000, 1)])) :=
  .move _ _ (.launch _ _ _ (by decide) (by decide) (by decide))
theorem witness_PpuAdvancesThreePerCpuCycle :
    let s := { sample [0xE6, 0x10] with ppu := { Ppu.powerOn with scanline := 261, cycle := 340 } }
    s.params.busVariant = .nes ∧ s.ppu.countersOk ∧ sees (fun t => t.ppu.position) (step s) 14 := by decide +kernel
theorem witness_StepKeepsLaunchInputs :
    (stateLeft (step (sample [0xEE, 0x00, 0x80]))).isSome ∧ (stateLeft (step (sample [0xEA]))).isSome := by
  decide +kernel
theorem witness_HaltedStepChangesNothing :
    let s := { sample [0xEA] with halted := true, nmiPending := true }
    s.unmarked ∧ s.halted ∧ s.ppu.nmiOut = false := by decide +kernel
/-- A marked state; a next state; a fault; a refusal. -/
theorem witness_MarksEndTheRun :
    State.unmarked { sample [] with faulted := some 0x8000 } = false ∧
    sees (fun t => t.pc) (step (sample [0xEA])) 0x8001 ∧
    (stateLeft (step (sample [0x8D, 0x00, 0x80]))).any (fun t => t.faulted == some 0x8000) ∧
    (stateLeft (step (sample [0x9B, 0x00, 0x80]))).any (fun t => t.refused == some 0x9B) := by decide +kernel
theorem witness_NmiService :
    let s := { sample [0xEA] with nmiPending := true, irqPending := true, sp := 0x01 }
    s.unmarked ∧ s.halted = false ∧ s.nmiPending := by decide +kernel
/-- P.I = 0, then P.I = 1. -/
theorem witness_IrqService :
    let s := { sample [0xEA] with irqPending := true, p := flags false false false false false true }
    let t := { sample [0xEA] with irqPending := true }
    (s.unmarked ∧ s.halted = false ∧ s.nmiPending = false ∧ s.irqPending ∧ s.p.i = false) ∧
    (t.unmarked ∧ t.halted = false ∧ t.nmiPending = false ∧ t.irqPending ∧ t.p.i) := by decide +kernel
theorem witness_LoadInstructions :
    [Instr.ldaImm 0, .ldxZpy 0xFF, .ldyAbx 0xFFFF, .laxIzy 0xFF].map named
      = [.lda, .ldx, .ldy, .lax].map some := by decide +kernel
/-- Stores at both ends of the memory that never raises, and under `FlatRam`. -/
theorem witness_StoreInstructions :
    [Instr.staAbs 0x7FFF, .stxZp 0, .styZpx 0xFF, .saxAbs 0x4014].map (target (sample []))
      = [(.sta, 0x7FFF), (.stx, 0x0000), (.sty, 0x00FF), (.sax, 0x4014)].map some ∧
    ¬ raisesBusError (sample []) 0x7FFF ∧ ¬ raisesBusError (sample []) 0x0000 ∧
    ¬ raisesBusError (sample []) 0x00FF ∧ ¬ raisesBusError (sample []) 0x4014 ∧
    ¬ raisesBusError (under (fun p => { p with busVariant := .flatRam }) (sample [])) 0xFFFF := by
  unfold raisesBusError; decide +kernel
/-- Both ends of PRG ROM, one store and one read-modify-write. -/
theorem witness_WritesToPrgFault :
    [Instr.staAbs 0x8000, .isbAbx 0xFFFF].map (target (sample [])) = [(.sta, 0x8000), (.isb, 0xFFFF)].map some ∧
    Mnemonic.sta ∈ storingMnemonics ∧ Mnemonic.isb ∈ storingMnemonics ∧
    raisesBusError (sample []) 0x8000 ∧ raisesBusError (sample []) 0xFFFF := by
  unfold raisesBusError; decide +kernel
/-- SP at both ends. -/
theorem witness_PopReturnsPushedByte :
    State.memoriesOk { sample [] with sp := 0x00 } ∧ State.memoriesOk { sample [] with sp := 0xFF } := by
  decide +kernel
theorem witness_AdcAddsWithCarry : named (.adcImm 0xFF) = some .adc ∧ named (.adcIzx 0xFF) = some .adc := by
  decide +kernel
theorem witness_SbcSubtractsWithBorrow : named (.sbcAby 0xFFFF) = some .sbc ∧ named (.usbc 0) = some .usbc := by
  decide +kernel
theorem witness_LogicInstructions :
    [Instr.andImm 0, .oraZp 0xFF, .eorAbs 0xFFFF, .bitZp 0].map named = [.and, .ora, .eor, .bit].map some := by
  decide +kernel
theorem witness_CompareInstructions :
    [Instr.cmpImm 0, .cpxImm 0xFF, .cpyAbs 0xFFFF].map named = [.cmp, .cpx, .cpy].map some := by decide +kernel
theorem witness_IncDecMemory :
    [Instr.incAbs 0x7FFF, .decZp 0].map (target (sample [])) = [(.inc, 0x7FFF), (.dec, 0x0000)].map some ∧
    ¬ raisesBusError (sample []) 0x7FFF ∧ ¬ raisesBusError (sample []) 0x0000 := by
  unfold raisesBusError; decide +kernel
theorem witness_ShiftMemory :
    [Instr.aslZp 0, .lsrAbs 0x7FFF, .rolZp 0, .rorAbs 0x7FFF].map (target (sample []))
      = [(.asl, 0x0000), (.lsr, 0x7FFF), (.rol, 0x0000), (.ror, 0x7FFF)].map some ∧
    ¬ raisesBusError (sample []) 0x7FFF ∧ ¬ raisesBusError (sample []) 0x0000 := by
  unfold raisesBusError; decide +kernel
theorem witness_CompositeInstructions :
    [Instr.sloZp 0, .rlaZp 0, .sreZp 0, .rraAbs 0x7FFF, .dcpAbs 0x7FFF, .isbAbs 0x7FFF].map (target (sample []))
      = [(.slo, 0x0000), (.rla, 0x0000), (.sre, 0x0000), (.rra, 0x7FFF), (.dcp, 0x7FFF), (.isb, 0x7FFF)].map some ∧
    ¬ raisesBusError (sample []) 0x7FFF ∧ ¬ raisesBusError (sample []) 0x0000 := by
  unfold raisesBusError; decide +kernel
/-- Each branch, taken and not, at the ends of the offset. -/
theorem witness_BranchInstructions :
    [Instr.bpl (-128), .bmi 127, .bvc 0, .bvs (-1), .bcc 1, .bcs (-3), .bne 127, .beq (-128)].map
      (fun i => (i.descriptor.map (fun d => (branchTaken d.mnemonic (flags false false false false false false),
        branchTaken d.mnemonic (flags true true false false true true))), i.operand.map Operand.mode))
      = [(some (some true, some false), some .relative), (some (some false, some true), some .relative),
         (some (some true, some false), some .relative), (some (some false, some true), some .relative),
         (some (some true, some false), some .relative), (some (some false, some true), some .relative),
         (some (some true, some false), some .relative), (some (some false, some true), some .relative)] := by
  decide +kernel
/-- Every form of NOP, under both settings of `NOP_READS_OPERAND`. -/
theorem witness_NopInstructions :
    ((Instr.nop.descriptor.map (·.mnemonic), Instr.nop.operand) = (some .nop, none)) ∧
    [Instr.nopImm80 0, .nopZp04 0xFF, .nopAbx1C 0xFFFF].map (fun i =>
      (named i, i.descriptor.map fun d => (d.mode, d.addCycleOnPageCross)))
      = [(some .nop, some (.immediate, false)), (some .nop, some (.zeropage, false)),
         (some .nop, some (.absoluteX, true))] ∧
    (sample []).params.nopReadsOperand = false ∧
    (under (fun p => { p with nopReadsOperand := true }) (sample [])).params.nopReadsOperand := by decide +kernel
theorem witness_JamHalts :
    [Instr.jam02, .jamF2].map (fun i => i.descriptor.map (·.mnemonic)) = [some .jam, some .jam] := by decide +kernel
theorem witness_StableStubsUnderNmos :
    [Instr.ancImm0B 0xFF, .alr 0, .arr 0xFF, .sbx 0, .las 0xFFFF].map named
      = [.anc, .alr, .arr, .sbx, .las].map some ∧
    (under (fun p => { p with stubPolicy := .nmos }) (sample [])).params.stubPolicy = .nmos := by decide +kernel
/-- An unstable stub under either policy; a stable one under `Refuse`. -/
theorem witness_StubsRefused :
    (Instr.tas 0xFFFF).descriptor.map (·.unstable) = some true ∧
    (Instr.las 0xFFFF).descriptor.map (·.mnemonic) = some .las ∧ (sample []).params.stubPolicy = .refuse := by
  decide +kernel
/-- An immediate operand and one of another mode. -/
theorem witness_OperandReadsChangeOnlyDevices :
    Operand.mode (.immediate 0xFF) = .immediate ∧ Operand.mode (.zeropage 0xFF) ≠ .immediate := by decide
/-- A store to work RAM: 0x7FFF is no mirror of it. -/
theorem witness_StoresChangeOnlyTheStoredByte :
    let s := sample []
    target s (.incZp 0x10) = some (.inc, 0x0010) ∧ Mnemonic.inc ∈ storingMnemonics ∧
    sees (fun t => t.wram.read 0x10) (exec (.incZp 0x10) s) 0x81 ∧ s.region 0xFFFF ≠ s.region 0x0010 ∧
    s.region 0x0000 ≠ s.region 0x0010 := by decide +kernel
theorem witness_PushesChangeOnlyTheStack :
    let s := { sample [] with sp := 0x01 }
    [Instr.pha, .php, .jsr 0xFFFF, .brk].map (fun i => i.descriptor.map (·.mnemonic)) = pushingMnemonics.map some ∧
    sees (fun t => t.sp) (exec .brk s) 0xFE ∧ sees (fun t => t.sp) (exec .pha s) 0x00 ∧
    s.region 0x0000 ≠ s.region (stackAddress s.sp) ∧ s.region 0x0000 ≠ s.region (stackAddress (s.sp - 1)) ∧
    s.region 0x0000 ≠ s.region (stackAddress (s.sp - 2)) := by decide +kernel
/-- A load, and the accumulator form of a shift. -/
theorem witness_OtherInstructionsKeepMemory :
    named (.ldaZp 0x10) = some .lda ∧ Mnemonic.lda ∉ storingMnemonics ++ pushingMnemonics ∧
    sees (fun t => t.a) (exec (.ldaZp 0x10) (sample [])) 0x80 ∧
    Instr.aslImp.descriptor.map (·.mnemonic) = some .asl ∧ Mnemonic.asl ∈ storingMnemonics ∧
    Instr.aslImp.operand = none ∧ sees (fun t => t.a) (exec .aslImp (sample [])) 0x00 := by decide +kernel
/-- The addresses where the clauses meet. -/
theorem witness_NesBusReads :
    (sample []).params.busVariant = .nes ∧ (0x1FFF : Word).toNat ≤ 0x1FFF ∧ 0x2000 ≤ (0x2000 : Word).toNat ∧
    (0x3FFF : Word).toNat ≤ 0x3FFF ∧ isApuAddress 0x4000 ∧ isApuAddress 0x4013 ∧ isApuAddress 0x4015 ∧
    isApuAddress 0x4014 = false ∧ isApuAddress 0x4016 = false ∧ isApuAddress 0x4018 = false ∧
    0x4018 ≤ (0x4018 : Word).toNat ∧ (0x7FFF : Word).toNat ≤ 0x7FFF ∧ 0x8000 ≤ (0x8000 : Word).toNat ∧
    0x8000 ≤ (0xFFFF : Word).toNat ∧
    (0x4016 : Word).toNat = 0x4016 ∧ (0x4017 : Word).toNat = 0x4017 := by decide +kernel
theorem witness_StoredBytesReadBack :
    (sample []).memoriesOk ∧ (sample []).params.busVariant = .nes ∧ (0x07FF : Word).toNat ≤ 0x1FFF ∧
    (0x1FFF : Word).toNat ≤ 0x1FFF ∧ (0x07FF : Word).toNat % 0x0800 = (0x1FFF : Word).toNat % 0x0800 ∧
    isApuAddress (0x4015 : Word).toNat ∧ (0x4015 : Word).toNat ≠ 0x4017 ∧ (0x4017 : Word).toNat = 0x4017 ∧
    (under (fun p => { p with busVariant := .flatRam }) (sample [])).memoriesOk ∧
    (under (fun p => { p with busVariant := .flatRam }) (sample [])).params.busVariant = .flatRam ∧
    0x4018 ≤ (0x4018 : Word).toNat ∧ 0x4018 ≤ (0xFFFF : Word).toNat := by decide +kernel
/-- The eight registers at 0x2000 to 0x2007, and the last mirrors. -/
theorem witness_PpuRegisterWrites :
    (sample []).params.busVariant = .nes ∧
    ([0x2000, 0x2001, 0x2002, 0x2003, 0x2004, 0x2005, 0x2006, 0x2007, 0x3FF8, 0x3FFF].map
      fun a : Word => (decide (0x2000 ≤ a.toNat ∧ a.toNat ≤ 0x3FFF), a.toNat % 8))
      = [(true, 0), (true, 1), (true, 2), (true, 3), (true, 4), (true, 5), (true, 6), (true, 7), (true, 0), (true,
        7)] := by
  decide +kernel
theorem witness_PpuRegisterReads :
    (sample []).params.busVariant = .nes ∧
    ([0x2000, 0x2002, 0x2004, 0x2007, 0x3FFA, 0x3FFE, 0x3FFF].map
      fun a : Word => (decide (0x2000 ≤ a.toNat ∧ a.toNat ≤ 0x3FFF), a.toNat % 8))
      = [(true, 0), (true, 2), (true, 4), (true, 7), (true, 2), (true, 6), (true, 7)] := by decide +kernel
/-- The PPU addresses where the clauses meet. -/
theorem witness_DataPort :
    ([0x0000, 0x1FFF, 0x2000, 0x3EFF, 0x3F00, 0x3FFF, 0x5FFF, 0x7F00].map fun l : Word => l.toNat % 0x4000)
      = [0x0000, 0x1FFF, 0x2000, 0x3EFF, 0x3F00, 0x3FFF, 0x1FFF, 0x3F00] := by decide +kernel
theorem witness_GamepadPort :
    (sample []).params.busVariant = .nes ∧ (0x03 : Byte).getLsbD 0 ∧ (0xFE : Byte).getLsbD 0 = false ∧
    State.pad { sample [] with pad := ⟨true, 0, 0⟩ } = ⟨true, 0, 0⟩ ∧
    State.pad { sample [] with pad := ⟨false, 7, 0x85⟩ } = ⟨false, 7, 0x85⟩ := by decide +kernel
/-- Within a line and at the end of every kind of line. -/
theorem witness_ScanlineEvents :
    ([(0, 339), (0, 340), (238, 340), (239, 340), (240, 340), (241, 340), (260, 340), (261, 340)].map
      fun q : BitVec 16 × BitVec 9 => Ppu.countersOk { Ppu.powerOn with scanline := q.1, cycle := q.2 })
      = List.replicate 8 true := by decide +kernel
/-- A pixel of the rendered line and one of another line, at the last column. -/
theorem witness_BackgroundPixels : 239 < 240 ∧ 0 < 240 ∧ 255 < 256 := by decide
theorem witness_SpritePixels :
    239 < 240 ∧ 255 < 256 ∧ Ppu.memoriesOk { Ppu.powerOn with oam := [(255, 1)], fb := [(61439, 1)] } := by
  decide +kernel
/-- The last page of work RAM's mirrors, the first after the registers, and the last of PRG ROM. -/
theorem witness_OamDmaCopies :
    let s := under (fun p => { p with oamDmaMode := .copy }) (sample [])
    (sample []).memoriesOk ∧ (sample []).params.busVariant = .nes ∧ (sample []).params.oamDmaMode = .noOp ∧
    s.memoriesOk ∧ s.params.busVariant = .nes ∧ s.params.oamDmaMode = .copy ∧ (0x1F : Byte).toNat < 0x20 ∧
    0x41 ≤ (0x41 : Byte).toNat ∧ 0x41 ≤ (0xFF : Byte).toNat ∧ 255 < 256 := by decide +kernel
/-- The header of N2: one PRG unit, no CHR. -/
def headerN2 : List Byte := [0x4E, 0x45, 0x53, 0x1A, 1, 0, 0, 0, 0, 0, 0, 0, 0, 0, 0, 0]
theorem admissible_of_length (body : List Byte) (h : body.length = 16384) :
    (headerN2 ++ body).take 4 = [0x4E, 0x45, 0x53, 0x1A] ∧ (headerN2 ++ body).getD 7 0 &&& 0x0C = 0 ∧
    mapperOf ((headerN2 ++ body).getD 6 0) ((headerN2 ++ body).getD 7 0) = 0 ∧ (headerN2 ++ body).getD 4 0 = 1 ∧
    16 + 16384 + 0 ≤ (headerN2 ++ body).length :=
  ⟨rfl, (by show (0 : Byte) &&& 0x0C = 0; decide), (by show mapperOf 0 0 = 0; decide), rfl,
    (by rw [List.length_append, h]; decide)⟩
/-- N2's image meets every clause of the rule; N9's PRG size does not. -/
theorem witness_CartridgeAdmission :
    16 + 16384 + 0 ≤ (headerN2 ++ List.replicate 16384 (0xEA : Byte)).length ∧
    ¬ ((0 : Byte) = 1 ∨ (0 : Byte) = 2) :=
  ⟨(admissible_of_length _ List.length_replicate).2.2.2.2, by decide⟩
theorem witness_CanonicalTextAssembles :
    (Instr.ldaAbs 0xC0FF).descriptor.map (·.illegal) = some false ∧
    canonicalText .lda (some (.absolute 0xC0FF)) = some ['L', 'D', 'A', ' ', '$', 'C', '0', 'F', 'F'] := by
  decide +kernel

/-- A word placed where the step fetches runs as the first instruction after reset (log 26). -/
theorem test_withFetchWord :
    sees (fun t => (t.a, t.x)) (step (State.reset.withFetchWord 16 0x05A9)) (5, 0) ∧
    sees (fun t => t.pc) (step (State.reset.withFetchWord 24 0xC0004C)) 0xC000 := by decide +kernel


end Sys2Proof.Tests
end

section
/-! SUPPORT. How a step can end (R194 to R196, R211), and what that says of the invariant, the launch inputs and the
marks of the state it leaves. -/

namespace Sys2Proof.Machine

theorem State.unmarked_iff (s : State) : s.unmarked = true ↔ s.faulted = none ∧ s.refused = none := by
  simp [State.unmarked]

theorem step_of_unmarked {s : State} (h : s.unmarked = true) : step s = afterCpu s.cycles (cpuStep s) := by
  obtain ⟨hf, hr⟩ := s.unmarked_iff.1 h
  simp only [step, systemStep, hf, hr]

theorem stateLeft_step_of_marked {s : State} (h : s.unmarked = false) : stateLeft (step s) = none := by
  cases hf : s.faulted with
  | some a => simp only [step, systemStep, hf, stateLeft]
  | none =>
    cases hr : s.refused with
    | some op => simp only [step, systemStep, hf, hr, stateLeft]
    | none => rw [s.unmarked_iff.2 ⟨hf, hr⟩] at h; cases h

/-- `Ends s r`: `r` is an outcome the step of `s` can have. Either it leaves no state, or `s` is unmarked and `r` leaves a
state that keeps what every instruction keeps, but for the PPU's turn (a next state) or the mark of the stop. -/
inductive Ends (s : State) : Result → Prop where
  | next {u : State} (hs : s.unmarked = true) (hu : Keeps s u) : Ends s (.next (couplePpu s.cycles u))
  | busError {u : State} (k : Word) (hs : s.unmarked = true) (hu : Keeps s u) :
      Ends s (.fault (.busError k (u.setFaulted (some k))))
  | refusedOpcode {u : State} (op : Byte) (hs : s.unmarked = true) (hu : Keeps s u) :
      Ends s (.refused (.refusedOpcode op (u.setRefused (some op))))
  | leavesNone {r : Result} (hr : stateLeft r = none) : Ends s r

/-- The PPU's turn touches next states only, so what a CPU step keeps gives how the step ends. -/
theorem ends_afterCpu {s : State} (hs : s.unmarked = true) {r : Result} (hr : ResultKeeps s r) :
    Ends s (afterCpu s.cycles r) := by
  match r, hr with
  | .next _, hu => exact .next hs hu
  | .fault (.busError k _), ⟨_, hu, rfl⟩ => exact .busError k hs hu
  | .refused (.refusedOpcode op _), ⟨_, hu, rfl⟩ => exact .refusedOpcode op hs hu

theorem step_ends (s : State) : Ends s (step s) := by
  cases hs : s.unmarked with
  | false => exact .leavesNone (stateLeft_step_of_marked hs)
  | true =>
    rw [step_of_unmarked hs]
    rcases cpuStep_keeps s with hr | ⟨op, he⟩
    · exact ends_afterCpu hs hr
    · rw [he]; exact .leavesNone rfl

/-! ### The marks and the launch inputs -/

theorem Keeps.unmarked {s u : State} (h : Keeps s u) : u.unmarked = s.unmarked := by
  simp only [State.unmarked, h.faulted, h.refused]

section couplePpu
variable (c0 : Nat) (s : State)
@[simp] theorem couplePpu_unmarked : (couplePpu c0 s).unmarked = s.unmarked := by rw [couplePpu_frame]; rfl
@[simp] theorem couplePpu_cart : (couplePpu c0 s).cart = s.cart := by rw [couplePpu_frame]
@[simp] theorem couplePpu_params : (couplePpu c0 s).params = s.params := by rw [couplePpu_frame]
@[simp] theorem couplePpu_buttons : (couplePpu c0 s).buttons = s.buttons := by rw [couplePpu_frame]
end couplePpu

theorem Ends.next_unmarked {s t : State} (h : Ends s (.next t)) : t.unmarked = true := by
  cases h with
  | next hs hu => rw [couplePpu_unmarked, hu.unmarked, hs]
  | leavesNone hr => cases hr

theorem Ends.busError_faulted {s t : State} {a : Word} (h : Ends s (.fault (.busError a t))) :
    t.faulted = some a := by
  cases h with
  | busError _ hs hu => rfl
  | leavesNone hr => cases hr

theorem Ends.refusedOpcode_refused {s t : State} {op : Byte} (h : Ends s (.refused (.refusedOpcode op t))) :
    t.refused = some op := by
  cases h with
  | refusedOpcode _ hs hu => rfl
  | leavesNone hr => cases hr

/-! ### The invariant -/

/-- A mark is no part of the invariant. -/
theorem State.Inv.setFaulted {s : State} (h : s.Inv) (m : Option Word) : (s.setFaulted m).Inv := h

theorem State.Inv.setRefused {s : State} (h : s.Inv) (m : Option Byte) : (s.setRefused m).Inv := h

/-- The state a step leaves comes from one that keeps what every instruction keeps, by the PPU's turn or a mark. -/
theorem Ends.stateLeft_cases {s t : State} {r : Result} (h : Ends s r) (ht : stateLeft r = some t) :
    ∃ u, Keeps s u ∧ (t = couplePpu s.cycles u ∨ (∃ k, t = u.setFaulted (some k)) ∨
      ∃ op, t = u.setRefused (some op)) := by
  cases h with
  | next hs hu => cases ht; exact ⟨_, hu, .inl rfl⟩
  | busError k hs hu => cases ht; exact ⟨_, hu, .inr (.inl ⟨k, rfl⟩)⟩
  | refusedOpcode op hs hu => cases ht; exact ⟨_, hu, .inr (.inr ⟨op, rfl⟩)⟩
  | leavesNone hr => rw [hr] at ht; cases ht

end Sys2Proof.Machine
end

section
/-! SUPPORT. The launch (R240) and the host's `reset()` (R238) give states that meet the invariant. -/

namespace Sys2Proof.Machine

theorem keeps_hostReset (s : State) : Keeps s (hostReset s) := by
  simp only [hostReset]
  refine Keeps.trans ?_ (keeps_setHalted _ false)
  refine Keeps.trans ?_ (keeps_setPc _ _)
  refine Keeps.trans ?_ (keeps_read16 0xFFFC _)
  exact (keeps_setSp s 0xFD).trans (keeps_setFlags _ rfl)

/-- Power-on with an admissible cartridge and a canonical RAM image meets the invariant. -/
theorem powerOn_setRam_inv {cart : Cart} (params : Params) {ram : Memory} (hc : cart.wellFormed = true)
    (hw : ram.wf = true) (hb : ram.below 65536 = true) : ((State.powerOn cart params).setRam ram).Inv := by
  refine ⟨?_, rfl, rfl, rfl⟩
  rw [State.memoriesOk_iff]
  exact ⟨⟨rfl, rfl⟩, ⟨rfl, rfl⟩, ⟨hw, hb⟩, rfl, hc⟩

theorem boot_inv {cart : Cart} (params : Params) {ram : Memory} (hc : cart.wellFormed = true)
    (hw : ram.wf = true) (hb : ram.below 65536 = true) : (boot cart params ram).Inv :=
  (keeps_hostReset _).inv (powerOn_setRam_inv params hc hw hb)

end Sys2Proof.Machine
end

section
/-! SUPPORT. What a CPU read of a PPU register gives (R46, R213 to R215). -/

namespace Sys2Proof.Machine

/-- Under `Nes` the addresses 0x2000 to 0x3FFF select the PPU's registers (R44, R46). -/
theorem region_ppuReg {s : State} {a : Word} (hs : s.params.busVariant = .nes) (h1 : 0x2000 ≤ a.toNat)
    (h2 : a.toNat ≤ 0x3FFF) : s.region a = .ppu (ppuReg a.toNat) := by
  simp only [State.region, hs, nesRegion]
  rw [if_neg (by omega), if_pos (by omega)]

theorem busRead_ppuReg {s : State} {a : Word} {r : PpuReg} (h : s.region a = .ppu r) :
    busRead a s = ((ppuRead s.params.paletteMirror s.cart r s.ppu).1,
      { s with ppu := (ppuRead s.params.paletteMirror s.cart r s.ppu).2 }) := by
  simp only [busRead, h, State.setPpu]

/-- The registers that return the databus when read (R213). -/
theorem ppuReg_writeOnly {a : Nat} (h2 : a % 8 ≠ 2) (h4 : a % 8 ≠ 4) (h7 : a % 8 ≠ 7) :
    ppuReg a ∈ [PpuReg.ctrl, .mask, .oamAddr, .scroll, .addr] := by
  have hlt : a % 8 < 8 := Nat.mod_lt _ (by decide)
  unfold ppuReg
  generalize a % 8 = k at *
  interval_cases k <;> simp at *

theorem ppuRead_writeOnly (mi : Bool) (c : Cart) {r : PpuReg} (p : Ppu)
    (h : r ∈ [PpuReg.ctrl, .mask, .oamAddr, .scroll, .addr]) : ppuRead mi c r p = (p.databus, p) := by
  cases r
  case status | oamData | data => simp at h
  all_goals rfl

/-- The STATUS image as a number: vblank weighs 128, the databus gives the low five bits (R34). -/
theorem statusImage_eq_ofNat (p : Ppu) :
    statusImage p = BitVec.ofNat 8 (128 * p.vblank.toNat + p.databus.toNat % 32) := by
  have hhigh : (flagAt p.vblank 7).toNat = 2 ^ 7 * p.vblank.toNat := by cases p.vblank <;> rfl
  have hlow : (p.databus &&& 0x1F).toNat = p.databus.toNat % 32 := by
    rw [BitVec.toNat_and]
    exact Nat.and_two_pow_sub_one_eq_mod _ 5
  have hlt : p.databus.toNat % 32 < 2 ^ 7 := by omega
  have hv := p.vblank.toNat_le
  apply BitVec.eq_of_toNat_eq
  rw [statusImage, BitVec.toNat_or, hhigh, hlow, ← Nat.two_pow_add_eq_or_of_lt hlt, BitVec.toNat_ofNat]
  omega

theorem ppuRead_status (mi : Bool) (c : Cart) (p : Ppu) :
    ppuRead mi c .status p =
      (statusImage p, { p with vblank := false, latch := 0, databus := statusImage p }) := rfl

end Sys2Proof.Machine
end

section
/-! SUPPORT. The bits of the status image (R20, R21). -/

namespace Sys2Proof.Machine

theorem flagAt_getLsbD (b : Bool) {k j : Nat} (hj : j < 8) : (flagAt b k).getLsbD j = (b && decide (j = k)) := by
  have hbit : ∀ n, (flagByte b).getLsbD n = (b && decide (n = 0)) := by
    intro n; cases b <;> cases n <;> simp [flagByte]
  rw [flagAt, BitVec.getLsbD_shiftLeft, hbit]
  by_cases h : j < k
  · simp [h, Nat.ne_of_lt h]
  · simp [h, hj, show j - k = 0 ↔ j = k by omega]

/-- Bit `j` of the status image is the flag whose place is `j`. -/
theorem pack_getLsbD (p : Flags) (b : Bool) {j : Nat} (hj : j < 8) :
    (pack p b).getLsbD j = [p.c, p.z, p.i, p.d, b, true, p.v, p.n].getD j false := by
  simp only [pack, BitVec.getLsbD_or, flagAt_getLsbD _ hj]
  interval_cases j <;> simp

end Sys2Proof.Machine
end

section
/-! SUPPORT. The proofs of the statements about the state: the invariant, what a step keeps, the marks, reads of the PPU registers
and the status image. -/

namespace Sys2Proof.Settled

open Sys2Proof.Machine

/-- Settles O9: a CPU step keeps the invariant (`Keeps.inv`), the PPU's turn keeps it, and a mark is no part of it. -/
theorem invariantKeptByStep : Obligations.InvariantKeptByStep := by
  intro s t hi ht
  obtain ⟨u, hu, rfl | ⟨k, rfl⟩ | ⟨op, rfl⟩⟩ := (step_ends s).stateLeft_cases ht
  · exact couplePpu_inv s.cycles (hu.inv hi)
  · exact (hu.inv hi).setFaulted (some k)
  · exact (hu.inv hi).setRefused (some op)

/-- Settles O12: no instruction writes a launch input, and neither the PPU's turn nor a mark does. -/
theorem stepKeepsLaunchInputs : Obligations.StepKeepsLaunchInputs := by
  intro s t ht
  obtain ⟨u, hu, rfl | ⟨k, rfl⟩ | ⟨op, rfl⟩⟩ := (step_ends s).stateLeft_cases ht <;>
    simp [hu.cart, hu.params, hu.buttons]

/-- Settles O14, clause by clause from how a step can end. -/
theorem marksEndTheRun : Obligations.MarksEndTheRun := by
  refine ⟨fun s h => stateLeft_step_of_marked h, fun s t h => ?_, fun s t a h => ?_, fun s t op h => ?_⟩
  · exact (h ▸ step_ends s).next_unmarked
  · exact (h ▸ step_ends s).busError_faulted
  · exact (h ▸ step_ends s).refusedOpcode_refused

/-- Settles O52: the address selects a register by its value modulo 8, and each register's read is its own lemma. -/
theorem ppuRegisterReads : Obligations.PpuRegisterReads := by
  intro s a hs h1 h2
  have hr := region_ppuReg hs h1 h2
  refine ⟨fun h => ?_, fun h => ?_, fun n2 n4 n7 => ?_, fun h => ?_⟩
  · rw [show ppuReg a.toNat = .status by simp only [ppuReg, h]] at hr
    rw [busRead_ppuReg hr, ppuRead_status, statusImage_eq_ofNat]
  · rw [show ppuReg a.toNat = .oamData by simp only [ppuReg, h]] at hr
    rw [busRead_ppuReg hr]
    rfl
  · rw [busRead_ppuReg hr, ppuRead_writeOnly _ _ _ (ppuReg_writeOnly n2 n4 n7)]
  · rw [show ppuReg a.toNat = .data by simp only [ppuReg, h]] at hr
    exact busRead_ppuReg hr

/-- Settles O8: the state after reset is a launch, with the empty cartridge and an empty RAM image. -/
theorem invariantHoldsAtReset : Obligations.InvariantHoldsAtReset := by
  unfold Obligations.InvariantHoldsAtReset
  rw [Laws.reset_eq_hostReset]
  exact boot_inv Params.default rfl rfl rfl

/-- Settles O38: the eight bits are `pack_getLsbD`, and `unpack` reads six of them back. -/
theorem statusImage : Obligations.StatusImage := by
  intro p q b
  simp (disch := decide) only [unpack, pack_getLsbD]
  exact ⟨rfl, rfl, rfl, rfl, rfl, rfl, rfl, rfl, rfl⟩

end Sys2Proof.Settled
end

section
/-! SUPPORT. The address decoder by range (R43, R44), and what a CPU read and a CPU write do in each region
(R45 to R54). -/

namespace Sys2Proof.Machine

section nes
variable {s : State} {a : Word}

theorem region_wram (hs : s.params.busVariant = .nes) (h : a.toNat ≤ 0x1FFF) :
    s.region a = .wram (a.toNat % 0x0800) := by
  simp (disch := omega) only [State.region, hs, nesRegion, if_pos]

theorem region_apu (hs : s.params.busVariant = .nes) (h : isApuAddress a.toNat = true) (hn : a.toNat ≠ 0x4017) :
    s.region a = .apu a.toNat := by
  simp only [isApuAddress, Bool.or_eq_true, Bool.and_eq_true, decide_eq_true_eq, beq_iff_eq] at h
  by_cases h5 : a.toNat = 0x4015
  · simp (disch := omega) only [State.region, hs, nesRegion, if_neg, if_pos]
  · simp (disch := omega) only [State.region, hs, nesRegion, if_neg, if_pos]

theorem region_oamDma (hs : s.params.busVariant = .nes) (h : a.toNat = 0x4014) : s.region a = .oamDma := by
  simp (disch := omega) only [State.region, hs, nesRegion, if_neg, if_pos]

theorem region_pad1 (hs : s.params.busVariant = .nes) (h : a.toNat = 0x4016) : s.region a = .pad1 := by
  simp (disch := omega) only [State.region, hs, nesRegion, if_neg, if_pos]

theorem region_pad2 (hs : s.params.busVariant = .nes) (h : a.toNat = 0x4017) : s.region a = .pad2 := by
  simp (disch := omega) only [State.region, hs, nesRegion, if_neg, if_pos]

/-- Nothing backs 0x4018 to 0x7FFF: the decoder's `unlisted` row, then its open bus (R51, R52). -/
theorem region_unbacked (hs : s.params.busVariant = .nes) (h1 : 0x4018 ≤ a.toNat) (h2 : a.toNat ≤ 0x7FFF) :
    s.region a = .unlisted ∨ s.region a = .openBus := by
  by_cases h : a.toNat < 0x4020
  · left; simp (disch := omega) only [State.region, hs, nesRegion, if_neg, if_pos]
  · right; simp (disch := omega) only [State.region, hs, nesRegion, if_neg, if_pos]

theorem region_prg (hs : s.params.busVariant = .nes) (h : 0x8000 ≤ a.toNat) :
    s.region a = .prg ((a.toNat - 0x8000) % s.cart.prgSize.bytes) := by
  simp only [State.region, hs, nesRegion_prg h]

theorem region_ram (hs : s.params.busVariant = .flatRam) : s.region a = .ram a.toNat := by
  simp only [State.region, hs]

end nes

section access
variable {s : State} {a : Word}

theorem busRead_of_wram {off : Nat} (h : s.region a = .wram off) : busRead a s = (s.wram.read off, s) := by
  simp only [busRead, h]

theorem busRead_of_apu {k : Nat} (h : s.region a = .apu k) : busRead a s = (s.apu.read k, s) := by
  simp only [busRead, h]

theorem busRead_of_oamDma (h : s.region a = .oamDma) : busRead a s = (0, s) := by
  simp only [busRead, h]

theorem busRead_of_pad1 (h : s.region a = .pad1) : busRead a s = padRead s := by
  simp only [busRead, h]

theorem busRead_of_pad2 (h : s.region a = .pad2) :
    busRead a s = (Config.hostByte4017 s.draws, { s with draws := s.draws + 1 }) := by
  simp only [busRead, h, State.setDraws]

theorem busRead_of_unbacked (h : s.region a = .unlisted ∨ s.region a = .openBus) : busRead a s = (0, s) := by
  rcases h with h | h <;> simp only [busRead, h]

theorem busRead_of_prg {off : Nat} (h : s.region a = .prg off) : busRead a s = (s.cart.prg.read off, s) := by
  simp only [busRead, h]

theorem busRead_of_ram {k : Nat} (h : s.region a = .ram k) : busRead a s = (s.ram.read k, s) := by
  simp only [busRead, h]

variable (v : Byte)

theorem busStore_of_wram {off : Nat} (h : s.region a = .wram off) :
    busStore a v s = { s with wram := s.wram.write off v } := by
  simp only [busStore, h, State.setWram]

theorem busStore_of_apu {k : Nat} (h : s.region a = .apu k) :
    busStore a v s = { s with apu := s.apu.write k v } := by
  simp only [busStore, h, State.setApu]

theorem busStore_of_pad2 (h : s.region a = .pad2) : busStore a v s = { s with apu := s.apu.write 0x4017 v } := by
  simp only [busStore, h, State.setApu]

theorem busStore_of_ram {k : Nat} (h : s.region a = .ram k) :
    busStore a v s = { s with ram := s.ram.write k v } := by
  simp only [busStore, h, State.setRam]

theorem busStore_of_pad1 (h : s.region a = .pad1) : busStore a v s = padWrite v s := by
  simp only [busStore, h]

theorem busStore_of_oamDma (h : s.region a = .oamDma) : busStore a v s = oamDma v s := by
  simp only [busStore, h]

theorem busStore_of_ppu {r : PpuReg} (h : s.region a = .ppu r) :
    busStore a v s = { s with ppu := ppuWrite s.params.paletteMirror s.cart r v s.ppu } := by
  simp only [busStore, h, State.setPpu]

theorem busStore_of_unbacked (h : s.region a = .unlisted ∨ s.region a = .openBus) : busStore a v s = s := by
  rcases h with h | h <;> simp only [busStore, h]

/-- Whether a write to PRG ROM also raises is `busWrite`'s matter (R53). -/
theorem busStore_of_prg {off : Nat} (h : s.region a = .prg off) : busStore a v s = s := by
  simp only [busStore, h]

/-- Two addresses with one region share one byte: in a memory the CPU can write, what a store through one leaves a read
through the other returns. -/
theorem busRead_busStore_sameRegion {b : Word} (hm : s.memoriesOk = true) (hab : s.region b = s.region a)
    (hmem : (∃ off, s.region a = .wram off) ∨ (∃ k, s.region a = .apu k) ∨ ∃ k, s.region a = .ram k) :
    (busRead b (busStore a v s)).1 = v := by
  obtain ⟨⟨hwram, -⟩, ⟨hapu, -⟩, ⟨hram, -⟩, -⟩ := s.memoriesOk_iff.1 hm
  have hb := (busStore_region a v s b).trans hab
  rcases hmem with ⟨off, h⟩ | ⟨k, h⟩ | ⟨k, h⟩
  · rw [busRead_of_wram (hb.trans h), busStore_of_wram v h]
    exact Memory.read_write_same hwram off v
  · rw [busRead_of_apu (hb.trans h), busStore_of_apu v h]
    exact Memory.read_write_same hapu k v
  · rw [busRead_of_ram (hb.trans h), busStore_of_ram v h]
    exact Memory.read_write_same hram k v

end access

end Sys2Proof.Machine
end

section
/-! SUPPORT. The gamepad port (R230, R231). -/

namespace Sys2Proof.Machine

/-- A bit as the byte 0 or 1 is that bit shifted down and masked. -/
theorem flagByte_getLsbD (v : Byte) (k : Nat) : flagByte (v.getLsbD k) = (v >>> k) &&& 1 := by
  change _ = (v >>> k) &&& 1#8
  rw [BitVec.and_one_eq_setWidth_ofBool_getLsbD, BitVec.getLsbD_ushiftRight, Nat.add_zero]
  cases v.getLsbD k <;> rfl

/-- The button index counts up and stays at Right, the last (R231). -/
theorem padIndex_next (i : BitVec 3) : (if i = 7 then 7 else i + 1) = BitVec.ofNat 3 (min (i.toNat + 1) 7) := by
  revert i
  decide

theorem padRead_strobe {s : State} (h : s.pad.strobe = true) : padRead s = (s.buttons &&& 1, s) := by
  rw [padRead, if_pos h, flagByte_getLsbD, BitVec.ushiftRight_zero]

theorem padRead_shift {s : State} (h : s.pad.strobe = false) :
    padRead s = ((s.pad.snapshot >>> s.pad.index.toNat) &&& 1,
      { s with pad := { s.pad with index := BitVec.ofNat 3 (min (s.pad.index.toNat + 1) 7) } }) := by
  rw [padRead, if_neg (by simp [h]), flagByte_getLsbD, padIndex_next]
  rfl

theorem padWrite_eq (v : Byte) (s : State) : padWrite v s = { s with
    pad := ⟨v.getLsbD 0, 0, if v.getLsbD 0 then s.pad.snapshot else s.buttons⟩ } := rfl

end Sys2Proof.Machine
end

section
/-! SUPPORT. OAM DMA (R229) as 256 bus reads, and its copy of a page without devices. -/

namespace Sys2Proof.Machine

/-- One byte of the DMA, its place in OAM as a number. -/
theorem oamDmaByte_eq (page : Byte) (s : State) (k : Nat) : oamDmaByte page s k =
    let q := busRead (w16 page (BitVec.ofNat 8 k)) s
    { q.2 with ppu := { q.2.ppu with oam := q.2.ppu.oam.write ((q.2.ppu.oamAddr.toNat + k) % 256) q.1 } } := by
  simp only [oamDmaByte, State.setPpu, BitVec.toNat_add, BitVec.toNat_ofNat, Nat.add_mod_mod]

/-- The state before the DMA's `n`-th read. -/
def oamDmaState (page : Byte) (s : State) (n : Nat) : State := (List.range n).foldl (oamDmaByte page) s

theorem oamDmaState_succ (page : Byte) (s : State) (n : Nat) :
    oamDmaState page s (n + 1) = oamDmaByte page (oamDmaState page s n) n := by
  rw [oamDmaState, List.range_succ, List.foldl_append]
  rfl

theorem oamDma_noOp {s : State} (page : Byte) (h : s.params.oamDmaMode = .noOp) : oamDma page s = s := by
  simp only [oamDma, h]

theorem oamDma_copy {s : State} (page : Byte) (h : s.params.oamDmaMode = .copy) :
    oamDma page s = (oamDmaState page s 256).addCycles s.params.oamDmaCycles := by
  simp only [oamDma, h, oamDmaState]

/-- OAM after the first `n` bytes of `f` were copied to it from index `start` on, wrapping at its end. -/
def copyToOam (f : Nat → Byte) (start : Nat) (oam : Memory) : Nat → Memory
  | 0 => oam
  | n + 1 => (copyToOam f start oam n).write ((start + n) % 256) (f n)

theorem copyToOam_wf (f : Nat → Byte) (start : Nat) {oam : Memory} (h : oam.wf = true) (n : Nat) :
    (copyToOam f start oam n).wf = true := by
  induction n with
  | zero => exact h
  | succ n ih => exact Memory.write_wf ih _ _

/-- At most 256 bytes go to distinct places, so each is read back. -/
theorem read_copyToOam (f : Nat → Byte) (start : Nat) {oam : Memory} (h : oam.wf = true) {n k : Nat} (hk : k < n)
    (hn : n ≤ 256) : (copyToOam f start oam n).read ((start + k) % 256) = f k := by
  induction n with
  | zero => omega
  | succ n ih =>
    rw [copyToOam, Memory.read_write (copyToOam_wf f start h n)]
    by_cases hkn : k = n
    · rw [hkn, if_pos rfl]
    · rw [if_neg (by omega), ih (by omega) (by omega)]

/-- A page without PPU or port registers: work RAM, open bus or PRG ROM (R229). -/
def IsPlainPage (page : Byte) : Prop := page.toNat < 0x20 ∨ 0x41 ≤ page.toNat

/-- The byte at offset `k` of a page without devices. -/
def pageByte (s : State) (page : Byte) (k : Nat) : Byte :=
  if page.toNat < 0x20 then s.wram.read ((page.toNat * 256 + k) % 0x0800)
  else if page.toNat < 0x80 then 0
  else s.cart.prg.read ((page.toNat * 256 + k - 0x8000) % s.cart.prgSize.bytes)

/-- Reading a page without devices gives its bytes and changes nothing, whatever the PPU's state. -/
theorem busRead_plainPage {s : State} {page : Byte} (hs : s.params.busVariant = .nes) (hp : IsPlainPage page)
    {k : Nat} (hk : k < 256) (q : Ppu) :
    busRead (w16 page (BitVec.ofNat 8 k)) (s.setPpu q) = (pageByte s page k, s.setPpu q) := by
  have ha : (w16 page (BitVec.ofNat 8 k)).toNat = page.toNat * 256 + k := by
    rw [w16_toNat, BitVec.toNat_ofNat, Nat.mod_eq_of_lt hk]
  have hq : (s.setPpu q).params.busVariant = .nes := hs
  unfold IsPlainPage at hp
  unfold pageByte
  by_cases h1 : page.toNat < 0x20
  · rw [busRead_of_wram (region_wram hq (by omega)), ha, if_pos h1, State.setPpu_wram]
  by_cases h2 : page.toNat < 0x80
  · rw [busRead_of_unbacked (region_unbacked hq (by omega) (by omega)), if_neg h1, if_pos h2]
  · rw [busRead_of_prg (region_prg hq (by omega)), ha, if_neg h1, if_neg h2, State.setPpu_cart]

/-- From a page without devices the DMA changes OAM alone. -/
theorem oamDmaState_plainPage {s : State} {page : Byte} (hs : s.params.busVariant = .nes) (hp : IsPlainPage page)
    {n : Nat} (hn : n ≤ 256) : oamDmaState page s n = s.setPpu { s.ppu with
      oam := copyToOam (pageByte s page) s.ppu.oamAddr.toNat s.ppu.oam n } := by
  induction n with
  | zero => rfl
  | succ n ih =>
    rw [oamDmaState_succ, ih (by omega), oamDmaByte_eq, busRead_plainPage hs hp (show n < 256 by omega)]
    rfl

end Sys2Proof.Machine
end

section
/-! SUPPORT. What a CPU write of a PPU register does (R216). -/

namespace Sys2Proof.Machine

/-- The latch after a SCROLL or ADDR write, as a number (R216). -/
theorem shiftLatch_eq_ofNat (p : Ppu) (v : Byte) :
    shiftLatch p v = BitVec.ofNat 16 (p.latch.toNat % 256 * 256 + v.toNat) := by
  have hv := v.isLt
  apply BitVec.eq_of_toNat_eq
  rw [shiftLatch, w16_toNat, lo8, BitVec.toNat_setWidth, BitVec.toNat_ofNat]
  omega

/-- The registers whose write shifts the latch (R216). -/
theorem ppuWrite_shiftLatch (mi : Bool) (c : Cart) {r : PpuReg} (h : r = .scroll ∨ r = .addr) (v : Byte) (p : Ppu) :
    ppuWrite mi c r v p = { p with databus := v, latch := shiftLatch p v } := by
  rcases h with rfl | rfl <;> rfl

end Sys2Proof.Machine
end

section
/-! SUPPORT. What an operand read leaves unchanged (R54, R101). -/

namespace Sys2Proof.Machine

/-- What neither a bus read nor added cycles change, computing an effective address does not change. -/
theorem effectiveAddress_unchanged {α : Type} (f : State → α) (hread : ∀ k s, f (busRead k s).2 = f s)
    (hcycles : ∀ n s, f (s.addCycles n) = f s) (flagged : Bool) (op : Operand) (s : State) :
    f (effectiveAddress flagged op s).2 = f s := by
  have hcross (base ea : Word) (t : State) : f (pageCross flagged base ea t) = f t := by
    rw [pageCross, apply_ite f, hcycles, ite_self]
  cases op <;>
    simp only [effectiveAddress, indexed, fetchOperand8, fetchOperand16, read16, zeroPagePointer, indirectTarget,
      hcross, hread]

theorem readOperand_unchanged {α : Type} (f : State → α) (hread : ∀ k s, f (busRead k s).2 = f s)
    (hcycles : ∀ n s, f (s.addCycles n) = f s) (flagged : Bool) (op : Operand) (s : State) :
    f (readOperand flagged op s).2 = f s := by
  cases op
  case immediate => exact hread _ s
  all_goals exact (hread _ _).trans (effectiveAddress_unchanged f hread hcycles flagged _ s)

@[simp] theorem readOperand_pad_strobe (flagged : Bool) (op : Operand) (s : State) :
    (readOperand flagged op s).2.pad.strobe = s.pad.strobe :=
  readOperand_unchanged (·.pad.strobe) busRead_pad_strobe (fun _ _ => rfl) flagged op s

@[simp] theorem readOperand_pad_snapshot (flagged : Bool) (op : Operand) (s : State) :
    (readOperand flagged op s).2.pad.snapshot = s.pad.snapshot :=
  readOperand_unchanged (·.pad.snapshot) busRead_pad_snapshot (fun _ _ => rfl) flagged op s

/-- Only the page-cross penalty adds a cycle to an operand read (R88). -/
theorem readOperand_cycles (flagged : Bool) (op : Operand) (s : State) :
    (readOperand flagged op s).2.cycles = s.cycles ∨
      flagged = true ∧ (readOperand flagged op s).2.cycles = s.cycles + 1 := by
  cases op
  case immediate => exact .inl (busRead_cycles _ s)
  all_goals simpa only [readOperand, busRead_cycles] using effectiveAddress_cycles flagged _ s

end Sys2Proof.Machine
end

section
/-! SUPPORT. The proofs of the statements about the bus, the PPU's registers, the gamepad port and OAM DMA. -/

namespace Sys2Proof.Settled

open Sys2Proof.Machine

/-- Settles O49, region by region. -/
theorem nesBusReads : Obligations.NesBusReads := by
  intro s a hs
  refine ⟨fun h => ?_, fun h1 h2 => ?_, fun h hn => ?_, fun h => ?_, fun h => ?_, fun h => ?_, fun h1 h2 => ?_,
    fun h => ?_⟩
  · exact busRead_of_wram (region_wram hs h)
  · exact busRead_ppuReg (region_ppuReg hs h1 h2)
  · exact busRead_of_apu (region_apu hs h hn)
  · exact busRead_of_oamDma (region_oamDma hs h)
  · rw [busRead_of_pad1 (region_pad1 hs h)]
    split
    · next hp => exact padRead_strobe hp
    · next hp => exact padRead_shift (Bool.eq_false_iff.2 hp)
  · exact ⟨_, busRead_of_pad2 (region_pad2 hs h)⟩
  · exact busRead_of_unbacked (region_unbacked hs h1 h2)
  · exact busRead_of_prg (region_prg hs h)

/-- Settles O50: each store changes the memory of its region, and addresses of one region read one byte. -/
theorem storedBytesReadBack : Obligations.StoredBytesReadBack := by
  intro s a b v hm
  refine ⟨fun hs ha hb hab => ?_, fun hs h hn => ?_, fun hs h => ?_, fun hs => ?_, fun hs h => ?_⟩
  · have ra := region_wram hs ha
    have rb : s.region b = s.region a := by rw [ra, hab, region_wram hs hb]
    exact ⟨busStore_of_wram v ra, busRead_busStore_sameRegion v hm rb (.inl ⟨_, ra⟩)⟩
  · have ra := region_apu hs h hn
    exact ⟨busStore_of_apu v ra, busRead_busStore_sameRegion v hm rfl (.inr (.inl ⟨_, ra⟩))⟩
  · exact busStore_of_pad2 v (region_pad2 hs h)
  · have ra : s.region a = .ram a.toNat := region_ram hs
    exact ⟨busStore_of_ram v ra, busRead_of_ram ra, busRead_busStore_sameRegion v hm rfl (.inr (.inr ⟨_, ra⟩))⟩
  · by_cases hp : 0x8000 ≤ a.toNat
    · exact busStore_of_prg v (region_prg hs hp)
    · exact busStore_of_unbacked v (region_unbacked hs h (by omega))

/-- Settles O51: the address selects a register by its value modulo 8, and each register's write is its row of R213. -/
theorem ppuRegisterWrites : Obligations.PpuRegisterWrites := by
  intro s a v hs h1 h2
  have hstore {r : PpuReg} (h : ppuReg a.toNat = r) := busStore_of_ppu v (h ▸ region_ppuReg hs h1 h2)
  refine ⟨fun h => ?_, fun h => ?_, fun h => ?_, fun h => ?_, fun h => ?_, fun h => ?_, fun h => ?_⟩
  · exact hstore (r := .ctrl) (by simp only [ppuReg, h])
  · exact hstore (r := .mask) (by simp only [ppuReg, h])
  · exact hstore (r := .status) (by simp only [ppuReg, h])
  · exact hstore (r := .oamAddr) (by simp only [ppuReg, h])
  · exact hstore (r := .oamData) (by simp only [ppuReg, h])
  · have hr : ppuReg a.toNat = .scroll ∨ ppuReg a.toNat = .addr := by
      rcases h with h | h <;> simp [ppuReg, h]
    rw [hstore rfl, ppuWrite_shiftLatch _ _ hr, shiftLatch_eq_ofNat]
  · exact hstore (r := .data) (by simp only [ppuReg, h])

/-- Settles O54: 0x4016 is the port of the first gamepad, read and written as R230 and R231 say. -/
theorem gamepadPort : Obligations.GamepadPort := by
  intro s v hs
  have hr : s.region 0x4016 = .pad1 := region_pad1 hs rfl
  refine ⟨fun h => ?_, fun h => ?_, fun h => ?_, fun h => ?_⟩
  · rw [busStore_of_pad1 v hr, padWrite_eq, h, if_pos rfl]
  · rw [busStore_of_pad1 v hr, padWrite_eq, h, if_neg Bool.false_ne_true]
  · rw [busRead_of_pad1 hr, padRead_strobe h]
  · rw [busRead_of_pad1 hr, padRead_shift h]

/-- Settles O45: an operand read is bus reads and at most the page-cross cycle. -/
theorem operandReadsChangeOnlyDevices : Obligations.OperandReadsChangeOnlyDevices := by
  intro flagged op s
  obtain ⟨hvram, hpalette, hoam, hfb⟩ := (keepsMem_readOperand flagged op s).ppu
  refine ⟨?_, fun hm => ?_, readOperand_frame flagged op s, readOperand_cycles flagged op s, hvram, hpalette, hoam,
    hfb, readOperand_pad_strobe flagged op s, readOperand_pad_snapshot flagged op s⟩
  · rintro b rfl
    rfl
  · refine readOperand_of_ne flagged s ?_
    rintro b rfl
    exact hm rfl

/-- Settles O58: the states between the reads are `oamDmaState`; from a plain page they differ in OAM alone. -/
theorem oamDmaCopies : Obligations.OamDmaCopies := by
  intro s page hm hs
  have hstore := busStore_of_oamDma page (region_oamDma (a := 0x4014) hs rfl)
  refine ⟨fun h => ?_, fun h => ?_, fun h hp => ?_⟩
  · rw [hstore, oamDma_noOp page h]
  · refine ⟨oamDmaState page s, rfl, fun k _ => ?_, ?_⟩
    · rw [oamDmaState_succ, oamDmaByte_eq]
    · rw [hstore, oamDma_copy page h, State.addCycles]
  · obtain ⟨-, -, -, hppu, -⟩ := s.memoriesOk_iff.1 hm
    obtain ⟨-, -, ⟨hoam, -⟩, -⟩ := s.ppu.memoriesOk_iff.1 hppu
    rw [hstore, oamDma_copy page h, oamDmaState_plainPage hs hp le_rfl]
    refine ⟨?_, fun k hk => ?_⟩
    · simp only [State.setPpu, State.addCycles]
    · simp only [State.addCycles_ppu, State.setPpu_ppu]
      exact read_copyToOam (pageByte s page) _ hoam hk le_rfl

end Sys2Proof.Settled
end

section
/-! SUPPORT. The opcode table read both ways (R64, R66, R68): each decoder entry builds instructions that encode to its
opcode byte and the operand bytes it takes, and every instruction is built by the entry at its opcode byte. -/

namespace Sys2Proof

open Sys2Proof.Machine

/-! ### The operand bytes -/

theorem lo8_toNat (w : Word) : (lo8 w).toNat = w.toNat % 256 := BitVec.toNat_setWidth 8 w

theorem hi8_toNat (w : Word) : (hi8 w).toNat = w.toNat / 256 := by
  have hw := w.isLt
  rw [hi8, BitVec.toNat_setWidth, BitVec.toNat_ushiftRight, Nat.shiftRight_eq_div_pow]
  omega

theorem w16_hi8_lo8 (w : Word) : w16 (hi8 w) (lo8 w) = w := by
  apply BitVec.eq_of_toNat_eq
  rw [w16_toNat, hi8_toNat, lo8_toNat]
  omega

theorem lo8_w16 (h l : Byte) : lo8 (w16 h l) = l := BitVec.setWidth_append_eq_right

theorem hi8_w16 (h l : Byte) : hi8 (w16 h l) = h := by
  have hl := l.isLt
  apply BitVec.eq_of_toNat_eq
  rw [hi8_toNat, w16_toNat]
  omega

theorem offsetInRange_iff (off : Int) : offsetInRange off = true ↔ -128 ≤ off ∧ off ≤ 127 := by
  simp [offsetInRange]

theorem offsetInRange_sext8 (b : Byte) : offsetInRange (sext8 b) = true := by
  have h1 := b.le_toInt
  have h2 := b.toInt_lt
  rw [offsetInRange_iff, sext8]
  omega

theorem ofInt_sext8 (b : Byte) : BitVec.ofInt 8 (sext8 b) = b := BitVec.ofInt_toInt

theorem sext8_ofInt {off : Int} (h : offsetInRange off = true) : sext8 (BitVec.ofInt 8 off) = off := by
  rw [offsetInRange_iff] at h
  rw [sext8, BitVec.toInt_ofInt]
  exact Int.bmod_eq_of_le (by omega) (by omega)

/-! ### The entries -/

/-- `e.Reads i bs`: after the opcode byte, the entry `e` reads the operand bytes `bs` and builds the instruction `i`. -/
inductive DecodeEntry.Reads : DecodeEntry → Instr → List Byte → Prop where
  | implied (i : Instr) : Reads (.implied i) i []
  | byte (f : Byte → Instr) (b : Byte) : Reads (.byte f) (f b) [b]
  | word (f : Word → Instr) (w : Word) : Reads (.word f) (f w) [lo8 w, hi8 w]
  | offset (f : Int → Instr) (off : Int) (h : offsetInRange off = true) :
      Reads (.offset f) (f off) [BitVec.ofInt 8 off]

theorem DecodeEntry.finish_eq_ok_iff {e : DecodeEntry} {bytes rest : List Byte} {i : Instr} :
    e.finish bytes = .ok (i, rest) ↔ ∃ bs, e.Reads i bs ∧ bytes = bs ++ rest := by
  constructor
  · intro h
    match e, bytes, h with
    | .implied i, bytes, rfl => exact ⟨[], .implied i, rfl⟩
    | .byte f, b :: rest, rfl => exact ⟨[b], .byte f b, rfl⟩
    | .word f, l :: h :: rest, rfl =>
      exact ⟨_, .word f (w16 h l), by rw [lo8_w16, hi8_w16]; rfl⟩
    | .offset f, b :: rest, rfl =>
      exact ⟨_, .offset f (sext8 b) (offsetInRange_sext8 b), by rw [ofInt_sext8]; rfl⟩
  · rintro ⟨bs, h, rfl⟩
    cases h with
    | implied => rfl
    | byte f b => rfl
    | word f w => simp only [List.cons_append, List.nil_append, finish, w16_hi8_lo8]
    | offset f off h => simp only [List.cons_append, List.nil_append, finish, sext8_ofInt h]

/-- What `e` builds is well formed and encodes to `op` and the operand bytes read. -/
def DecodeEntry.BuildsFor (op : Byte) (e : DecodeEntry) : Prop :=
  ∀ i bs, e.Reads i bs → i.wellFormed = true ∧ encode i = op :: bs

/-- The entries of consecutive opcode bytes from `n` on. -/
def BuildFrom (n : Nat) : List DecodeEntry → Prop
  | [] => True
  | e :: es => e.BuildsFor (BitVec.ofNat 8 n) ∧ BuildFrom (n + 1) es

theorem BuildFrom.getElem {n : Nat} {es : List DecodeEntry} (h : BuildFrom n es) {k : Nat} {e : DecodeEntry}
    (hk : es[k]? = some e) : e.BuildsFor (BitVec.ofNat 8 (n + k)) := by
  induction es generalizing n k with
  | nil => cases hk
  | cons e' es ih =>
    obtain ⟨he, hes⟩ := h
    cases k with
    | zero => cases hk; exact he
    | succ k => rw [← Nat.add_assoc, Nat.add_right_comm]; exact ih hes hk

/-- Each row of the decoder. Only a branch, the first entry of an odd row, has an operand that could be ill formed. -/
theorem buildFrom_of_row {h : Nat} {row : List DecodeEntry} (hr : decodeRows[h]? = some row) :
    BuildFrom (16 * h) row := by
  have hlt : h < 16 := (List.getElem?_eq_some_iff.1 hr).1
  interval_cases h <;> cases hr
  all_goals
    refine ⟨?_, ?_, ?_, ?_, ?_, ?_, ?_, ?_, ?_, ?_, ?_, ?_, ?_, ?_, ?_, ?_, trivial⟩ <;> rintro _ _ ⟨⟩ <;>
      refine ⟨?_, rfl⟩
  all_goals simp only [Instr.wellFormed]
  all_goals assumption

/-- What the entry at an opcode byte builds encodes to that byte and the operand bytes read. -/
theorem DecodeEntry.Reads.encodes {op : Byte} {e : DecodeEntry} {i : Instr} {bs : List Byte} (h : e.Reads i bs)
    (he : decodeEntryAt op = some e) : i.wellFormed = true ∧ encode i = op :: bs := by
  unfold decodeEntryAt at he
  split at he
  · cases he
  · next row hr =>
    have hb := (buildFrom_of_row hr).getElem he
    rw [Nat.div_add_mod, BitVec.ofNat_toNat, BitVec.setWidth_eq] at hb
    exact hb i bs h

/-- Every instruction is built by the entry at its opcode byte. -/
theorem Instr.exists_reads {i : Instr} (h : i.wellFormed = true) :
    ∃ e, decodeEntryAt i.opcode = some e ∧ e.Reads i i.operandBytes := by
  cases i <;> exact ⟨_, by dsimp only [Instr.opcode]; rfl, by constructor <;> exact h⟩

/-- Every opcode byte has an entry (R68). -/
theorem exists_decodeEntryAt (op : Byte) : ∃ e, decodeEntryAt op = some e := by
  have h : ∀ op : Byte, (decodeEntryAt op).isSome = true := by decide +kernel
  exact Option.isSome_iff_exists.1 (h op)

/-- Two operand bytes are enough for every entry. -/
theorem DecodeEntry.exists_finish (e : DecodeEntry) (b1 b2 : Byte) : ∃ i rest, e.finish [b1, b2] = .ok (i, rest) := by
  cases e <;> exact ⟨_, _, rfl⟩

theorem decode_cons {op : Byte} {e : DecodeEntry} (he : decodeEntryAt op = some e) (bytes : List Byte) :
    decode (op :: bytes) = e.finish bytes := by
  simp only [decode, he]

end Sys2Proof
end

section
/-! SUPPORT. The canonical text of an instruction (R84) through the assembler: its tokens (R77), its line (R78), its
descriptor (R79), its bytes (R82). -/

namespace Sys2Proof.Machine

/-! ### The lexer on the canonical text -/

theorem beq_eq_false_of_isIdentStart {c e : Char} (hc : isIdentStart c = true) (he : isIdentStart e = false) :
    (c == e) = false := by
  rw [beq_eq_false_iff_ne]
  rintro rfl
  rw [hc] at he
  cases he

/-- A run of identifier characters that a blank ends is one word. -/
theorem lex_word (fuel : Nat) {c : Char} {w : List Char} (hc : isIdentStart c = true)
    (hw : ∀ x ∈ w, isIdentChar x = true) (rest : List Char) :
    lex (fuel + 2) (c :: w ++ ' ' :: rest) = putToken (wordToken (c :: w)) (lex fuel rest) := by
  have hne {e : Char} (he : isIdentStart e = false) : (c == e) = false := beq_eq_false_of_isIdentStart hc he
  have hblank : isBlank c = false := by rw [isBlank, hne rfl, hne rfl, hne rfl]; rfl
  have htake : (w ++ ' ' :: rest).takeWhile isIdentChar = w := by
    rw [List.takeWhile_append_of_pos hw, List.takeWhile_cons_of_neg (by decide), List.append_nil]
  have hdrop : (w ++ ' ' :: rest).dropWhile isIdentChar = ' ' :: rest := by
    rw [List.dropWhile_append_of_pos hw, List.dropWhile_cons_of_neg (by decide)]
  have hspace : lex (fuel + 1) (' ' :: rest) = lex fuel rest := rfl
  rw [List.cons_append, lex]
  simp only [hne (e := '\n') rfl, hblank, hne (e := '#') rfl, hne (e := '(') rfl, hne (e := ')') rfl,
    hne (e := ':') rfl, hne (e := '$') rfl, hne (e := ',') rfl, hc, htake, hdrop, hspace, Bool.false_eq_true, if_false,
    if_true]

/-- A mnemonic's letters are one word. -/
theorem letters_isWord (m : Mnemonic) :
    ∃ c w, letters m = c :: w ∧ isIdentStart c = true ∧ ∀ x ∈ w, isIdentChar x = true := by
  cases m <;> exact ⟨_, _, rfl, rfl, List.all_eq_true.1 rfl⟩

/-- The lexer knows every documented mnemonic (R77). -/
theorem wordToken_letters : ∀ d ∈ opcodes, d.illegal = false →
    wordToken (letters d.mnemonic) = .mnemonic d.mnemonic := by
  decide +kernel

/-- The tokens of an operand's text; a branch's are those of its offset byte. -/
def operandTokens : Option Operand → List Token
  | none => []
  | some (.immediate b) => [.hash, .hex8 b]
  | some (.zeropage b) => [.hex8 b]
  | some (.zeropageX b) => [.hex8 b, .commaX]
  | some (.zeropageY b) => [.hex8 b, .commaY]
  | some (.absolute w) => [.hex16 w]
  | some (.absoluteX w) => [.hex16 w, .commaX]
  | some (.absoluteY w) => [.hex16 w, .commaY]
  | some (.relative off) => [.hex8 (BitVec.ofInt 8 off)]
  | some (.indirect w) => [.lparen, .hex16 w, .rparen]
  | some (.indirectX b) => [.lparen, .hex8 b, .commaX, .rparen]
  | some (.indirectY b) => [.lparen, .hex8 b, .rparen, .commaY]

theorem lex_nil (fuel : Nat) : lex fuel [] = .ok [] := by cases fuel <;> rfl

/-- The lexer reads an operand's text as its tokens, whatever fuel beyond the text's length it has. -/
theorem lex_operandText {o : Option Operand} {t : List Char} (ht : operandText o = some t) (k : Nat) :
    lex (k + t.length) t = .ok (operandTokens o) := by
  match o, t, ht with
  | none, _, rfl => exact lex_nil _
  | some (.immediate b), _, rfl => exact congrArg (putToken .hash) (lex_hexText8 (k + 2) b (rest := []) rfl)
  | some (.zeropage b), _, rfl => exact lex_hexText8 (k + 2) b (rest := []) rfl
  | some (.zeropageX b), _, rfl => exact lex_hexText8 (k + 4) b (rest := [',', 'X']) rfl
  | some (.zeropageY b), _, rfl => exact lex_hexText8 (k + 4) b (rest := [',', 'Y']) rfl
  | some (.absolute w), _, rfl => exact lex_hexText16 (k + 4) w (rest := []) rfl
  | some (.absoluteX w), _, rfl => exact lex_hexText16 (k + 6) w (rest := [',', 'X']) rfl
  | some (.absoluteY w), _, rfl => exact lex_hexText16 (k + 6) w (rest := [',', 'Y']) rfl
  | some (.indirect w), _, rfl => exact congrArg (putToken .lparen) (lex_hexText16 (k + 5) w (rest := [')']) rfl)
  | some (.indirectX b), _, rfl =>
    exact congrArg (putToken .lparen) (lex_hexText8 (k + 5) b (rest := [',', 'X', ')']) rfl)
  | some (.indirectY b), _, rfl =>
    exact congrArg (putToken .lparen) (lex_hexText8 (k + 5) b (rest := [')', ',', 'Y']) rfl)

theorem lex_canonicalText {d : Descriptor} (hd : d ∈ opcodes) (hdoc : d.illegal = false) {o : Option Operand}
    {text : List Char} (ht : canonicalText d.mnemonic o = some text) :
    lex text.length text = .ok (.mnemonic d.mnemonic :: operandTokens o) := by
  obtain ⟨t, hop, rfl⟩ := Option.map_eq_some_iff.1 ht
  obtain ⟨c, w, hl, hc, hw⟩ := letters_isWord d.mnemonic
  have hfuel : (c :: w ++ ' ' :: t).length = (w.length + t.length) + 2 := by
    simp only [List.length_append, List.length_cons]; omega
  rw [hl, hfuel, lex_word _ hc hw, ← hl, wordToken_letters d hd hdoc, lex_operandText hop]
  rfl

/-! ### The line and its bytes -/

/-- The operand of the grammar that an operand's tokens make (R78). -/
def asmOperand : Option Operand → AsmOperand
  | none => .none
  | some (.immediate b) => .imm (.u8 b)
  | some (.zeropage b) => .direct (.u8 b)
  | some (.zeropageX b) => .directX (.u8 b)
  | some (.zeropageY b) => .directY (.u8 b)
  | some (.absolute w) => .direct (.u16 w)
  | some (.absoluteX w) => .directX (.u16 w)
  | some (.absoluteY w) => .directY (.u16 w)
  | some (.relative off) => .direct (.u8 (BitVec.ofInt 8 off))
  | some (.indirect w) => .ind (.u16 w)
  | some (.indirectX b) => .indX (.u8 b)
  | some (.indirectY b) => .indY (.u8 b)

theorem parseOperand_operandTokens (o : Option Operand) : parseOperand (operandTokens o) = .ok (asmOperand o) := by
  cases o with
  | none => rfl
  | some o => cases o <;> rfl

/-- The operand holds no end of line. -/
theorem splitLines_operandTokens (m : Mnemonic) (o : Option Operand) :
    splitLines (.mnemonic m :: operandTokens o) = [.mnemonic m :: operandTokens o] := by
  cases o with
  | none => rfl
  | some o => cases o <;> rfl

theorem parseLines_canonical (m : Mnemonic) (o : Option Operand) :
    parseLines (splitLines (.mnemonic m :: operandTokens o)) = .ok [⟨none, m, asmOperand o⟩] := by
  have hline : parseLine (.mnemonic m :: operandTokens o) = .ok (some ⟨none, m, asmOperand o⟩) := by
    change (parseOperand (operandTokens o)).map _ = _
    rw [parseOperand_operandTokens]
    rfl
  rw [splitLines_operandTokens, parseLines, hline]
  rfl

/-- The modes the canonical operand of a mode is compatible with (R79). -/
def canonicalModes : Mode → List Mode
  | .zeropage | .relative => [.zeropage, .relative]
  | .absolute => [.absolute, .relative]
  | m => [m]

/-- The mode of an operand, Implied when there is none. -/
def operandMode (o : Option Operand) : Mode := (o.map Operand.mode).getD .implied

theorem modes_asmOperand (o : Option Operand) : (asmOperand o).modes = canonicalModes (operandMode o) := by
  cases o with
  | none => rfl
  | some o => cases o <;> rfl

/-- The first documented descriptor that fits is the one resolution picks (R79). -/
theorem resolve_of_find {m : Mnemonic} {a : AsmOperand} {d : Descriptor}
    (h : opcodes.find? (fun e => !e.illegal && (e.mnemonic == m && a.modes.contains e.mode)) = some d) :
    resolve m a = .ok d := by
  rw [← List.head?_filter, ← List.filter_filter] at h
  obtain ⟨ds, hds⟩ := List.head?_eq_some_iff.1 h
  simp only [resolve, hds, List.cons_append]

/-- A documented row is the first documented one of its mnemonic that its canonical operand fits. -/
theorem find_canonical : ∀ d ∈ opcodes, d.illegal = false → opcodes.find? (fun e =>
    !e.illegal && (e.mnemonic == d.mnemonic && (canonicalModes d.mode).contains e.mode)) = some d := by
  decide +kernel

theorem resolve_canonical {d : Descriptor} (hd : d ∈ opcodes) (hdoc : d.illegal = false) {o : Option Operand}
    (hm : operandMode o = d.mode) : resolve d.mnemonic (asmOperand o) = .ok d := by
  refine resolve_of_find ?_
  rw [modes_asmOperand, hm]
  exact find_canonical d hd hdoc

theorem emitLine_canonical (labels : Labels) (pc : Nat) {d : Descriptor} {o : Option Operand}
    (hm : operandMode o = d.mode) :
    emitLine labels ⟨pc, d, asmOperand o⟩ = .ok (d.code :: o.elim [] Operand.bytes) := by
  have h16 (w : Word) (hr : d.mode ≠ .relative) :
      (targetBytes ⟨pc, d, asmOperand o⟩ w).map (d.code :: ·) = .ok [d.code, lo8 w, hi8 w] := by
    rw [targetBytes, if_neg hr]; rfl
  cases o with
  | none => rfl
  | some o =>
    cases o
    case absolute w | absoluteX w | absoluteY w | indirect w => exact h16 w fun hr => nomatch hm.trans hr
    all_goals rfl

/-- Pass 1 on one instruction without a label (R81). -/
theorem pass1_single (pc : Nat) {m : Mnemonic} {a : AsmOperand} {d : Descriptor} (hr : resolve m a = .ok d) :
    pass1 pc [] [⟨none, m, a⟩] = .ok ([⟨pc, d, a⟩], []) := by
  rw [pass1, hr]
  rfl

/-- Pass 2 on one instruction (R82). -/
theorem pass2_single {labels : Labels} {l : PlacedLine} {bytes : List Byte} (he : emitLine labels l = .ok bytes) :
    pass2 labels [l] = .ok bytes := by
  rw [pass2, he]
  exact congrArg Except.ok (List.append_nil bytes)

theorem assemble_canonicalText {d : Descriptor} (hd : d ∈ opcodes) (hdoc : d.illegal = false) {o : Option Operand}
    (hm : operandMode o = d.mode) {text : List Char} (ht : canonicalText d.mnemonic o = some text) :
    assemble text = .ok (d.code :: o.elim [] Operand.bytes) := by
  have h1 := pass1_single 0x8000 (resolve_canonical hd hdoc hm)
  have h2 := pass2_single (emitLine_canonical [] 0x8000 hm)
  simp only [assemble, lex_canonicalText hd hdoc ht, parseLines_canonical, h1, h2, bind, Except.bind]

theorem operandMode_operand {i : Instr} {d : Descriptor} (hd : i.descriptor = some d) :
    operandMode i.operand = d.mode := by
  obtain ⟨e, he, -, h, -⟩ := i.descriptor_matches
  cases hd.symm.trans he
  rw [operandMode, h]
  split
  · next himp => exact himp.symm
  · rfl

theorem encode_eq_code_cons {i : Instr} {d : Descriptor} (hd : i.descriptor = some d) :
    encode i = d.code :: i.operand.elim [] Operand.bytes := by
  rw [encode, Instr.operandBytes, Instr.descriptor_code hd]
  cases i.operand <;> rfl

end Sys2Proof.Machine
end

section
/-! SUPPORT. The proofs of the statements about decoding, encoding and the assembler. -/

namespace Sys2Proof.Settled

open Sys2Proof.Machine

/-- Settles O2: the entry at an instruction's opcode byte reads its operand bytes and builds it. -/
theorem decodeInvertsEncode : Obligations.DecodeInvertsEncode := by
  intro i rest h
  obtain ⟨e, he, hr⟩ := i.exists_reads h
  rw [encode, List.cons_append, decode_cons he]
  exact DecodeEntry.finish_eq_ok_iff.2 ⟨i.operandBytes, hr, rfl⟩

/-- Settles O3: what an entry of the table builds encodes to its opcode byte and the bytes it read. -/
theorem encodeInvertsDecode : Obligations.EncodeInvertsDecode := by
  intro bytes rest i h
  cases bytes with
  | nil => cases h
  | cons op bytes =>
    obtain ⟨e, he⟩ := exists_decodeEntryAt op
    rw [decode_cons he] at h
    obtain ⟨bs, hr, rfl⟩ := DecodeEntry.finish_eq_ok_iff.1 h
    obtain ⟨hw, henc⟩ := hr.encodes he
    exact ⟨hw, by rw [henc, List.cons_append]⟩

/-- Settles O4: two operand bytes are enough to decode, and the instruction's own row describes the bytes read (O3). -/
theorem decodingIsTotal : Obligations.DecodingIsTotal := by
  intro op b1 b2
  obtain ⟨e, he⟩ := exists_decodeEntryAt op
  obtain ⟨i, rest, hf⟩ := e.exists_finish b1 b2
  have hd : decode [op, b1, b2] = .ok (i, rest) := (decode_cons he _).trans hf
  obtain ⟨-, henc⟩ := encodeInvertsDecode _ _ _ hd
  obtain ⟨d, hrow, hcode, hmode, hlen⟩ := i.descriptor_matches
  have hop : i.opcode = op := (List.cons.inj henc).1.symm
  have hsum : 3 = (encode i).length + rest.length := (congrArg List.length henc).trans List.length_append
  exact ⟨i, d, rest, by rw [← hop]; exact hrow, hcode.trans hop, hd, hop, by omega, hmode⟩

/-- Settles O60: the canonical text lexes to the mnemonic and the operand's tokens, which resolve to the row itself. -/
theorem canonicalTextAssembles : Obligations.CanonicalTextAssembles := by
  intro i d text hd hdoc ht
  rw [encode_eq_code_cons hd]
  exact ⟨assemble_canonicalText (mem_opcodes hd) hdoc (operandMode_operand hd) ht, rfl⟩

/-- Settles O1: the decoder evaluates each of the thirteen words. -/
theorem specWordsDecode : Obligations.SpecWordsDecode :=
  ⟨rfl, rfl, rfl, rfl, rfl, rfl, rfl, rfl, rfl, rfl, rfl, rfl, rfl⟩

end Sys2Proof.Settled
end

section
/-! SUPPORT. What an instruction with an operand does, by its access class (R101): its row gives the class, and each
class has one equation. -/

namespace Sys2Proof.Machine

/-- A row of the read class: one operand read, the effect `f`, and PC past the operand bytes. -/
theorem exec_read {i : Instr} {d : Descriptor} {o : Operand} {f : Byte → State → State} (hd : i.descriptor = some d)
    (ho : i.operand = some o) (hr : rowMeaning d o = some (readInstr d.baseCycles d.addCycleOnPageCross o f))
    (hf : ∀ m t, (f m t).pc = t.pc) (s : State) :
    exec i s =
      (let m := readOperand d.addCycleOnPageCross o (s.addCycles d.baseCycles)
       .next ((f m.1 m.2).setPc (s.pc + BitVec.ofNat 16 (d.length - 1)))) := by
  rw [exec_rowMeaning hd ho hr, readInstr_eq _ _ _ hf, Instr.operand_length hd ho]

section storing
variable {i : Instr} {d : Descriptor} {o : Operand} (hd : i.descriptor = some d) (ho : i.operand = some o)
  (hm : d.mnemonic ∈ storingMnemonics)
include hd ho hm

/-- A row of the write class, where the write does not raise. -/
theorem exec_write {v : State → Byte} (hr : rowMeaning d o = some fun s => writeInstr d.baseCycles o (v s) s)
    {s : State} (h : ¬ raisesBusError s (effectiveAddress d.addCycleOnPageCross o (s.addCycles d.baseCycles)).1) :
    exec i s =
      (let e := effectiveAddress d.addCycleOnPageCross o (s.addCycles d.baseCycles)
       .next ((busStore e.1 (v s) e.2).setPc (s.pc + BitVec.ofNat 16 (d.length - 1)))) := by
  rw [storing_unflagged hd hm] at h ⊢
  rw [exec_rowMeaning hd ho hr, writeInstr_eq _ _ _ h, Instr.operand_length hd ho]

/-- A row of the read-modify-write class, where the write does not raise. -/
theorem exec_rmw {op : Byte → Flags → Byte × Flags} {post : Byte → State → State}
    (hr : rowMeaning d o = some (rmwInstr d.baseCycles o op post)) (hp : ∀ m t, (post m t).pc = t.pc) {s : State}
    (h : ¬ raisesBusError s (effectiveAddress d.addCycleOnPageCross o (s.addCycles d.baseCycles)).1) :
    exec i s =
      (let e := effectiveAddress d.addCycleOnPageCross o (s.addCycles d.baseCycles)
       let m := busRead e.1 e.2
       let r := op m.1 s.p
       .next ((post r.1 ((busStore e.1 r.1 m.2).setFlags r.2)).setPc (s.pc + BitVec.ofNat 16 (d.length - 1)))) := by
  rw [storing_unflagged hd hm] at h ⊢
  rw [exec_rowMeaning hd ho hr, rmwInstr_eq _ _ _ hp h, Instr.operand_length hd ho]

end storing

/-- What a row that writes memory means: the write class, or the read-modify-write class with a further effect on A and
the flags alone (R101, R193). -/
inductive StoringMeaning (d : Descriptor) (o : Operand) : Prop where
  | write (v : State → Byte) (hr : rowMeaning d o = some fun s => writeInstr d.baseCycles o (v s) s)
  | rmw (op : Byte → Flags → Byte × Flags) (post : Byte → State → State)
      (hr : rowMeaning d o = some (rmwInstr d.baseCycles o op post))
      (hp : ∀ m t, ∃ a p, post m t = { t with a := a, p := p })

theorem storingMeaning {d : Descriptor} (o : Operand) (h : d.mnemonic ∈ storingMnemonics) : StoringMeaning d o := by
  simp only [storingMnemonics, List.mem_cons, List.not_mem_nil, or_false] at h
  rcases h with h | h | h | h | h | h | h | h | h | h | h | h | h | h | h | h
  · exact .write State.a (by simp only [rowMeaning, h])
  · exact .write State.x (by simp only [rowMeaning, h])
  · exact .write State.y (by simp only [rowMeaning, h])
  · exact .write (fun s => s.a &&& s.x) (by simp only [rowMeaning, h])
  · exact .rmw incByte State.setNZ (by simp only [rowMeaning, h]) (fun _ _ => ⟨_, _, rfl⟩)
  · exact .rmw decByte State.setNZ (by simp only [rowMeaning, h]) (fun _ _ => ⟨_, _, rfl⟩)
  · exact .rmw asl noMore (by simp only [rowMeaning, h]) (fun _ _ => ⟨_, _, rfl⟩)
  · exact .rmw lsr noMore (by simp only [rowMeaning, h]) (fun _ _ => ⟨_, _, rfl⟩)
  · exact .rmw rol noMore (by simp only [rowMeaning, h]) (fun _ _ => ⟨_, _, rfl⟩)
  · exact .rmw ror noMore (by simp only [rowMeaning, h]) (fun _ _ => ⟨_, _, rfl⟩)
  · exact .rmw asl oraA (by simp only [rowMeaning, h]) (fun _ _ => ⟨_, _, rfl⟩)
  · exact .rmw rol andA (by simp only [rowMeaning, h]) (fun _ _ => ⟨_, _, rfl⟩)
  · exact .rmw lsr eorA (by simp only [rowMeaning, h]) (fun _ _ => ⟨_, _, rfl⟩)
  · exact .rmw ror addA (by simp only [rowMeaning, h]) (fun _ _ => ⟨_, _, rfl⟩)
  · exact .rmw decByte compareA (by simp only [rowMeaning, h]) (fun _ _ => ⟨_, _, rfl⟩)
  · exact .rmw incByte subA (by simp only [rowMeaning, h]) (fun _ _ => ⟨_, _, rfl⟩)

/-- An instruction whose write raises ends with the bus error and the state up to the write (R194, log 12). -/
theorem exec_storing_raises {i : Instr} {d : Descriptor} {o : Operand} (hd : i.descriptor = some d)
    (ho : i.operand = some o) (hm : d.mnemonic ∈ storingMnemonics) {s : State}
    (h : raisesBusError s (effectiveAddress d.addCycleOnPageCross o (s.addCycles d.baseCycles)).1) :
    exec i s =
      (let e := effectiveAddress d.addCycleOnPageCross o (s.addCycles d.baseCycles)
       raiseBusError e.1 e.2) := by
  rw [storing_unflagged hd hm] at h ⊢
  cases storingMeaning o hm with
  | write v hr => rw [exec_rowMeaning hd ho hr]; exact writeInstr_raises _ _ _ h
  | rmw op post hr _ => rw [exec_rowMeaning hd ho hr]; exact rmwInstr_raises _ _ _ _ h

/-- The page-cross cycle, in the words of R88. -/
theorem pageCross_eq (flagged : Bool) (base ea : Word) (s : State) : pageCross flagged base ea s =
    if flagged = true ∧ hi8 ea ≠ hi8 base then { s with cycles := s.cycles + 1 } else s := by
  simp only [pageCross, Bool.and_eq_true, bne_iff_ne, State.addCycles]

end Sys2Proof.Machine
end

section
/-! SUPPORT. The arithmetic of the flags: adder, subtracter, comparator and shifter (R107 to R110) as numbers. -/

namespace Sys2Proof.Machine

/-- Bit 7 of a byte, as its size. -/
theorem getLsbD_seven (v : Byte) : v.getLsbD 7 = decide (128 ≤ v.toNat) :=
  (BitVec.msb_eq_getLsbD_last v).symm.trans (BitVec.msb_eq_decide v)

/-- The sign test of R107: a mask that keeps bit 7. -/
theorem and_0x80_ne_zero (v : Byte) : (v &&& 0x80 != 0) = v.getLsbD 7 := by
  have h : v &&& 0x80 = if v.getLsbD 7 then BitVec.twoPow 8 7 else 0 := BitVec.and_twoPow v 7
  rw [h]
  cases v.getLsbD 7 <;> rfl

/-- The operand of the subtracter: R108 adds the complement. -/
theorem toNat_xor_0xFF (m : Byte) : (m ^^^ 0xFF).toNat = 255 - m.toNat := by
  have h : m ^^^ 0xFF = ~~~m := BitVec.xor_allOnes
  rw [h, BitVec.toNat_not]

/-- The adder's V: the sign of the result differs from both operands' (R107). -/
theorem add_v (a m : Byte) (p : Flags) :
    (add a m p).2.v = ((m.getLsbD 7 ^^ (add a m p).1.getLsbD 7) && ((add a m p).1.getLsbD 7 ^^ a.getLsbD 7)) := by
  change ((m ^^^ (add a m p).1) &&& ((add a m p).1 ^^^ a) &&& 0x80 != 0) = _
  rw [and_0x80_ne_zero, BitVec.getLsbD_and, BitVec.getLsbD_xor, BitVec.getLsbD_xor]

theorem add_toNat (a m : Byte) (p : Flags) :
    (add a m p).1.toNat = (a.toNat + m.toNat + p.c.toNat) % 256 := rfl

/-- The adder on a whole: A + M + C, its ninth bit, signed overflow and the new A's Z and N (R107). -/
theorem add_eq (a m : Byte) (p : Flags) : add a m p =
    (let r := a.toNat + m.toNat + p.c.toNat
     let v := BitVec.ofNat 8 (r % 256)
     (v, { p with
       c := decide (r > 0xFF), v := (m ^^^ v) &&& (v ^^^ a) &&& 0x80 != 0, z := v == 0, n := v.getLsbD 7 })) := by
  have h : BitVec.ofNat 8 (a.toNat + m.toNat + p.c.toNat) =
      BitVec.ofNat 8 ((a.toNat + m.toNat + p.c.toNat) % 256) := BitVec.eq_of_toNat_eq (by simp)
  simp only [add, setNZ, h]

theorem sub_fst (a m : Byte) (p : Flags) :
    (sub a m p).1 = BitVec.ofInt 8 ((a.toNat : Int) - m.toNat - (1 - p.c.toNat)) := by
  have hm := m.isLt
  have hc := p.c.toNat_le
  apply BitVec.eq_of_toNat_eq
  rw [sub, add_toNat, toNat_xor_0xFF, BitVec.toNat_ofInt]
  omega

/-- A is at least M and the borrow exactly when the adder's ninth bit is set (R108). -/
theorem sub_c (a m : Byte) (p : Flags) : (sub a m p).2.c = decide (m.toNat + 1 ≤ a.toNat + p.c.toNat) := by
  have hm := m.isLt
  change decide (a.toNat + (m ^^^ 0xFF).toNat + p.c.toNat > 0xFF) = _
  rw [toNat_xor_0xFF, decide_eq_decide]
  omega

theorem sub_v (a m : Byte) (p : Flags) : (sub a m p).2.v =
    ((a.getLsbD 7 != m.getLsbD 7) && ((sub a m p).1.getLsbD 7 != a.getLsbD 7)) := by
  have hm : (m ^^^ 0xFF).getLsbD 7 = !m.getLsbD 7 := by
    rw [BitVec.getLsbD_xor]; exact Bool.xor_true _
  rw [sub, add_v, hm]
  cases m.getLsbD 7 <;> cases a.getLsbD 7 <;> cases (add a (m ^^^ 0xFF) p).1.getLsbD 7 <;> rfl

/-- The subtracter on a whole: A - M - (1 - C), no borrow, signed overflow and the new A's Z and N (R108). -/
theorem sub_eq (a m : Byte) (p : Flags) : sub a m p =
    (let v := BitVec.ofInt 8 ((a.toNat : Int) - m.toNat - (1 - p.c.toNat))
     (v, { p with
       c := decide (m.toNat + 1 ≤ a.toNat + p.c.toNat)
       v := (a.getLsbD 7 != m.getLsbD 7) && (v.getLsbD 7 != a.getLsbD 7)
       z := v == 0, n := v.getLsbD 7 })) := by
  have h : sub a m p = ((sub a m p).1, { p with
      c := (sub a m p).2.c, v := (sub a m p).2.v
      z := (sub a m p).1 == 0, n := (sub a m p).1.getLsbD 7 }) := rfl
  rw [h, sub_c, sub_v, sub_fst]

/-- The adder's V is signed overflow: all three signs, as sizes, against the two's complement values. -/
theorem add_v_iff_overflow (a m : Byte) (p : Flags) : (add a m p).2.v = true ↔
    ¬ (-128 ≤ a.toInt + m.toInt + p.c.toNat ∧ a.toInt + m.toInt + p.c.toNat ≤ 127) := by
  have ha := a.isLt
  have hm := m.isLt
  have hc := p.c.toNat_le
  rw [add_v, getLsbD_seven, getLsbD_seven, getLsbD_seven, add_toNat, BitVec.toInt_eq_toNat_cond,
    BitVec.toInt_eq_toNat_cond]
  simp only [Bool.and_eq_true, bne_iff_ne, ne_eq, decide_eq_decide]
  split <;> split <;> omega

theorem toInt_xor_0xFF (m : Byte) : (m ^^^ 0xFF).toInt = -m.toInt - 1 := by
  have hm := m.isLt
  rw [BitVec.toInt_eq_toNat_cond, BitVec.toInt_eq_toNat_cond, toNat_xor_0xFF]
  split <;> split <;> omega

/-- The comparator's flags: Z when register and M are equal (R109). -/
theorem compareFlags_eq (reg m : Byte) (p : Flags) : compareFlags reg m p =
    { p with c := decide (m.toNat ≤ reg.toNat), z := decide (reg = m), n := (reg - m).getLsbD 7 } := by
  have h : (reg - m == 0) = decide (reg = m) := by
    rw [Bool.beq_eq_decide_eq, decide_eq_decide]
    exact sub_eq_zero
  rw [compareFlags, setNZ, h]

theorem shiftLeft_one_eq_ofNat (v : Byte) : v <<< 1 = BitVec.ofNat 8 (2 * v.toNat) := by
  apply BitVec.eq_of_toNat_eq
  rw [BitVec.toNat_shiftLeft, BitVec.toNat_ofNat, Nat.shiftLeft_eq, Nat.mul_comm]

theorem ushiftRight_one_eq_ofNat (v : Byte) : v >>> 1 = BitVec.ofNat 8 (v.toNat / 2) := by
  have hv := v.isLt
  apply BitVec.eq_of_toNat_eq
  rw [BitVec.toNat_ushiftRight, BitVec.toNat_ofNat, Nat.shiftRight_eq_div_pow]
  omega

/-- A rotate left: the carry enters the vacated bit 0 (R110). -/
theorem shiftLeft_one_or_carry (v : Byte) (c : Bool) :
    (v <<< 1) ||| flagAt c 0 = BitVec.ofNat 8 (2 * v.toNat + c.toNat) := by
  have hc : (flagAt c 0).toNat = c.toNat := by cases c <;> rfl
  have hc' := c.toNat_le
  have hv : (v <<< 1).toNat = 2 ^ 1 * (v.toNat % 128) := by
    rw [BitVec.toNat_shiftLeft, Nat.shiftLeft_eq]; omega
  apply BitVec.eq_of_toNat_eq
  rw [BitVec.toNat_or, hv, hc, ← Nat.two_pow_add_eq_or_of_lt (by omega), BitVec.toNat_ofNat]
  omega

/-- A rotate right: the carry enters the vacated bit 7 (R110). -/
theorem ushiftRight_one_or_carry (v : Byte) (c : Bool) :
    (v >>> 1) ||| flagAt c 7 = BitVec.ofNat 8 (v.toNat / 2 + 128 * c.toNat) := by
  have hc : (flagAt c 7).toNat = 2 ^ 7 * c.toNat := by cases c <;> rfl
  have hc' := c.toNat_le
  have hv := v.isLt
  apply BitVec.eq_of_toNat_eq
  rw [BitVec.or_comm, BitVec.toNat_or, hc, BitVec.toNat_ushiftRight, Nat.shiftRight_eq_div_pow,
    ← Nat.two_pow_add_eq_or_of_lt (by omega), BitVec.toNat_ofNat]
  omega

section shifter
variable (v : Byte) (p : Flags)

theorem asl_eq : asl v p =
    (let r := BitVec.ofNat 8 (2 * v.toNat)
     (r, { p with c := v.getLsbD 7, z := r == 0, n := r.getLsbD 7 })) := by
  simp only [asl, setNZ, shiftLeft_one_eq_ofNat]

theorem lsr_eq : lsr v p =
    (let r := BitVec.ofNat 8 (v.toNat / 2)
     (r, { p with c := v.getLsbD 0, z := r == 0, n := r.getLsbD 7 })) := by
  simp only [lsr, setNZ, ushiftRight_one_eq_ofNat]

theorem rol_eq : rol v p =
    (let r := BitVec.ofNat 8 (2 * v.toNat + p.c.toNat)
     (r, { p with c := v.getLsbD 7, z := r == 0, n := r.getLsbD 7 })) := by
  simp only [rol, setNZ, shiftLeft_one_or_carry]

theorem ror_eq : ror v p =
    (let r := BitVec.ofNat 8 (v.toNat / 2 + 128 * p.c.toNat)
     (r, { p with c := v.getLsbD 0, z := r == 0, n := r.getLsbD 7 })) := by
  simp only [ror, setNZ, ushiftRight_one_or_carry]

end shifter

end Sys2Proof.Machine
end

section
/-! SUPPORT. The stack and the control transfers (R103 to R106, R111, R158 to R162), from any state. -/

namespace Sys2Proof.Machine

/-- A pop after a push takes the pushed byte from where SP was, and SP comes back (R103, R104). -/
theorem pop8_push8 {s : State} (hm : s.memoriesOk = true) (v : Byte) :
    (pop8 (push8 v s)).1 = v ∧ (pop8 (push8 v s)).2.sp = s.sp := by
  obtain ⟨⟨hwram, -⟩, -, ⟨hram, -⟩, -⟩ := s.memoriesOk_iff.1 hm
  have hsp : s.sp - 1 + 1 = s.sp := sub_add_cancel s.sp 1
  rw [pop8_eq, push8_eq, State.setSp_sp, hsp, busRead_setSp_fst]
  exact ⟨busRead_busStore_stack hwram hram s.sp v, rfl⟩

/-- A push among the base cycles: one store at SP, on a page where a store costs nothing. -/
theorem push8_addCycles (v : Byte) (n : Nat) (s : State) : push8 v (s.addCycles n) =
    { busStore (stackAddress s.sp) v s with sp := s.sp - 1, cycles := s.cycles + n } := by
  rw [push8_eq, busStore_addCycles]
  simp only [State.addCycles, State.setSp, busStore_stack_cycles]

/-- A pushed word among the base cycles: two stores, the high byte at SP. -/
theorem push16_addCycles (v : Word) (n : Nat) (s : State) : push16 v (s.addCycles n) =
    { busStore (stackAddress (s.sp - 1)) (lo8 v) (busStore (stackAddress s.sp) (hi8 v) s) with
      sp := s.sp - 2, cycles := s.cycles + n } := by
  rw [push16_eq, busStore_addCycles, busStore_addCycles]
  simp only [State.addCycles, State.setSp, busStore_stack_cycles]

section read16
variable (k : Word) (s : State)
@[simp] theorem read16_sp : (read16 k s).2.sp = s.sp := by rw [read16_frame]
@[simp] theorem read16_cycles : (read16 k s).2.cycles = s.cycles := by rw [read16_frame]
theorem read16_addCycles (n : Nat) :
    read16 k (s.addCycles n) = ((read16 k s).1, (read16 k s).2.addCycles n) := by
  simp only [read16, busRead_addCycles]
end read16

/-- A one-byte control transfer leaves PC where its effect puts it, under either rule (R86). -/
theorem transferInstr_one (base : Nat) (f : State → State) {s : State}
    (h : (f (s.addCycles base)).params = s.params) :
    transferInstr 1 base f s = .next (f (s.addCycles base)) := by
  rw [transferInstr_eq 1 base (u := f (s.addCycles base)) (t := (f (s.addCycles base)).pc) rfl h, landingPc_one]
  rfl

/-- A branch not taken: base cycles and the next instruction, no access (R111). -/
theorem branchInstr_notTaken (base : Nat) (off : Int) (s : State) :
    branchInstr base false off s = .next ((s.addCycles base).setPc (s.pc + 1)) := by
  simp only [branchInstr, Bool.false_eq_true, if_false]
  rw [advancePc_stay (State.addCycles_pc _ _)]
  rfl

/-- A branch taken: the offset byte's read, one cycle more or two, and the target as the advance rule sees it (R86,
R111). -/
theorem branchInstr_taken (base : Nat) (off : Int) (s : State) :
    branchInstr base true off s =
      (let target := addOffset (s.pc + 1) off
       .next (((((busRead s.pc s).2).addCycles base).addCycles (if hi8 target = hi8 (s.pc + 1) then 1 else 2)).setPc
         (landingPc s 2 target))) := by
  simp only [branchInstr, if_true, effectiveAddress, fetchOperand8, busRead_addCycles_snd, State.addCycles_pc]
  rw [advancePc_jump _ _ _ _ (by simp)]
  simp only [bne_iff_ne, ne_eq, ite_not]

end Sys2Proof.Machine
end

section
/-! SUPPORT. Where an instruction stores: the addresses, and that every other byte of memory stays (R101, R103,
R112). -/

namespace Sys2Proof.Machine

/-- From `s` to `t` memory changes only by stores through the addresses `ks`: the stored byte of any address that is
not a mirror of one of them stays, and PPU memory stays unless one of them is a PPU register or OAM DMA. -/
structure StoresOnly (ks : List Word) (s t : State) : Prop where
  cart   : t.cart = s.cart
  params : t.params = s.params
  stored : ∀ a, (∀ k ∈ ks, s.region a ≠ s.region k) → storedByte t a = storedByte s a
  ppu    : (∀ k ∈ ks, (∀ r, s.region k ≠ .ppu r) ∧ s.region k ≠ .oamDma) →
    t.ppu.vram = s.ppu.vram ∧ t.ppu.palette = s.ppu.palette ∧ t.ppu.oam = s.ppu.oam ∧ t.ppu.fb = s.ppu.fb

namespace StoresOnly

theorem region {ks : List Word} {s t : State} (h : StoresOnly ks s t) (k : Word) : t.region k = s.region k := by
  simp only [State.region, h.params, h.cart]

theorem mono {ks ls : List Word} {s t : State} (h : StoresOnly ks s t) (hs : ks ⊆ ls) : StoresOnly ls s t :=
  ⟨h.cart, h.params, fun a ha => h.stored a fun k hk => ha k (hs hk), fun hp => h.ppu fun k hk => hp k (hs hk)⟩

theorem trans {ks : List Word} {s t u : State} (h : StoresOnly ks s t) (h' : StoresOnly ks t u) :
    StoresOnly ks s u where
  cart := h'.cart.trans h.cart
  params := h'.params.trans h.params
  stored a ha := (h'.stored a (by simpa only [h.region] using ha)).trans (h.stored a ha)
  ppu hp := by
    obtain ⟨v, p, o, f⟩ := h.ppu hp
    obtain ⟨v', p', o', f'⟩ := h'.ppu (by simpa only [h.region] using hp)
    exact ⟨v'.trans v, p'.trans p, o'.trans o, f'.trans f⟩

end StoresOnly

theorem KeepsMem.storesOnly {s t : State} (h : KeepsMem s t) (ks : List Word) : StoresOnly ks s t :=
  ⟨h.cart, h.params, fun a _ => h.storedByte a, fun _ => h.ppu⟩

theorem storesOnly_busStore (k : Word) (v : Byte) (s : State) : StoresOnly [k] s (busStore k v s) where
  cart := busStore_cart k v s
  params := busStore_params k v s
  stored _ ha := storedByte_busStore v s (ha k (List.mem_singleton_self k))
  ppu hp := by
    obtain ⟨hppu, hdma⟩ := hp k (List.mem_singleton_self k)
    rw [busStore_ppuMem v s hppu hdma]
    exact ⟨rfl, rfl, rfl, rfl⟩

/-- A change of registers keeps every memory. -/
theorem keepsMem_registers (s : State) (a x y sp : Byte) (pc : Word) (p : Flags) :
    KeepsMem s { s with a := a, x := x, y := y, sp := sp, pc := pc, p := p } :=
  ⟨rfl, rfl, rfl, rfl, rfl, rfl, rfl, rfl, rfl⟩

section stack
variable {sp : Byte} {s : State} (h : s.sp = sp)
include h

theorem storesOnly_push8 (v : Byte) : StoresOnly [stackAddress sp] s (push8 v s) := by
  subst h
  exact (storesOnly_busStore _ v s).trans ((keepsMem_setSp _ _).storesOnly _)

theorem storesOnly_push16 (v : Word) : StoresOnly [stackAddress sp, stackAddress (sp - 1)] s (push16 v s) := by
  have hhigh := storesOnly_push8 h (hi8 v)
  have hlow := storesOnly_push8 (s := push8 (hi8 v) s) (sp := sp - 1) (by rw [← h]; rfl) (lo8 v)
  exact (hhigh.mono (by simp)).trans (hlow.mono (by simp))

theorem storesOnly_takeInterrupt (ret : Word) (brk : Bool) (vector : Word) :
    StoresOnly [stackAddress sp, stackAddress (sp - 1), stackAddress (sp - 2)] s (takeInterrupt ret brk vector s) := by
  have hret := storesOnly_push16 h ret
  have hflags := storesOnly_push8 (s := push16 ret s) (sp := sp - 2) (by rw [push16_eq, ← h]; rfl) (pack s.p brk)
  refine ((hret.mono (by simp)).trans (hflags.mono (by simp))).trans (KeepsMem.storesOnly ?_ _)
  exact ((keepsMem_setFlags _ _).trans (keepsMem_read16 vector _)).trans (keepsMem_setPc _ _)

end stack

/-- A next state comes from `s` by stores through `ks` alone. -/
def NextStoresOnly (ks : List Word) (s : State) (r : Result) : Prop := ∀ t, r = .next t → StoresOnly ks s t

theorem NextStoresOnly.mono {ks ls : List Word} {s : State} {r : Result} (h : NextStoresOnly ks s r) (hs : ks ⊆ ls) :
    NextStoresOnly ls s r := fun t ht => (h t ht).mono hs

theorem StoresOnly.next {ks : List Word} {s t : State} (h : StoresOnly ks s t) : NextStoresOnly ks s (.next t) := by
  rintro _ ⟨⟩
  exact h

theorem KeepsMem.next {s t : State} (h : KeepsMem s t) (ks : List Word) : NextStoresOnly ks s (.next t) :=
  (h.storesOnly ks).next

/-! ### The shared forms -/

theorem storesOnly_impliedInstr {ks : List Word} (base : Nat) {f : State → State} {s : State}
    (hf : StoresOnly ks (s.addCycles base) (f (s.addCycles base))) : NextStoresOnly ks s (impliedInstr base f s) :=
  ((((keepsMem_addCycles s base).storesOnly ks).trans hf).trans ((keepsMem_advancePc _ _ _ _).storesOnly ks)).next

theorem storesOnly_transferInstr {ks : List Word} (len base : Nat) {f : State → State} {s : State}
    (hf : StoresOnly ks (s.addCycles base) (f (s.addCycles base))) : NextStoresOnly ks s (transferInstr len base f s) :=
  ((((keepsMem_addCycles s base).storesOnly ks).trans hf).trans ((keepsMem_advancePc _ _ _ _).storesOnly ks)).next

section forms
variable (ks : List Word)

theorem storesOnly_readInstr (base : Nat) (flagged : Bool) (o : Operand) {f : Byte → State → State}
    (hf : ∀ m t, KeepsMem t (f m t)) (s : State) : NextStoresOnly ks s (readInstr base flagged o f s) :=
  ((((keepsMem_addCycles s base).trans (keepsMem_readOperand _ _ _)).trans (hf _ _)).trans
    (keepsMem_advancePc _ _ _ _)).next ks

theorem storesOnly_branchInstr (base : Nat) (c : Bool) (off : Int) (s : State) :
    NextStoresOnly ks s (branchInstr base c off s) := by
  cases c
  · rw [branchInstr_notTaken]
    exact ((keepsMem_addCycles s base).trans (keepsMem_setPc _ _)).next ks
  · rw [branchInstr_taken]
    exact ((((keepsMem_busRead s.pc s).trans (keepsMem_addCycles _ _)).trans (keepsMem_addCycles _ _)).trans
      (keepsMem_setPc _ _)).next ks

/-- A refusal leaves no next state. -/
theorem storesOnly_refuse (op : Byte) (s u : State) : NextStoresOnly ks s (refuse op u) := by
  intro t h
  rw [refuse] at h
  cases h

theorem storesOnly_stubInstr (op : Byte) (base : Nat) (flagged : Bool) (o : Operand) {f : Byte → State → State}
    (hf : ∀ m t, KeepsMem t (f m t)) (s : State) : NextStoresOnly ks s (stubInstr op base flagged o f s) := by
  unfold stubInstr
  cases s.params.stubPolicy
  · exact storesOnly_refuse ks op s _
  · exact storesOnly_readInstr ks base flagged o hf s

theorem storesOnly_skipInstr (len base : Nat) (s : State) : NextStoresOnly ks s (skipInstr len base s) :=
  ((keepsMem_addCycles s base).trans (keepsMem_advancePc _ _ _ _)).next ks

theorem storesOnly_nopMemoryInstr (base : Nat) (flagged : Bool) (o : Operand) (s : State) :
    NextStoresOnly ks s (nopMemoryInstr base flagged o s) := by
  have hs := keepsMem_addCycles s base
  refine KeepsMem.next (KeepsMem.trans ?_ (keepsMem_advancePc _ _ _ _)) ks
  exact ite_ok (Ok := KeepsMem s) (fun _ => hs.trans (keepsMem_readOperand _ _ _))
    (ite_ok (Ok := KeepsMem s) (fun _ => hs.trans (keepsMem_effectiveAddress _ _ _)) hs)

end forms

/-! ### Every instruction -/

/-- The stack bytes a mnemonic pushes: at SP and below (R103, R105, R125, R127, R159, R161). -/
def pushAddresses (m : Mnemonic) (sp : Byte) : List Word :=
  match m with
  | .pha | .php => [stackAddress sp]
  | .jsr => [stackAddress sp, stackAddress (sp - 1)]
  | .brk => [stackAddress sp, stackAddress (sp - 1), stackAddress (sp - 2)]
  | _ => []

/-- The effective address of an instruction that writes memory (R101, R112). -/
def operandAddresses (d : Descriptor) (o : Option Operand) (s : State) : List Word :=
  match o with
  | none => []
  | some o =>
    if d.mnemonic ∈ storingMnemonics then
      [(effectiveAddress d.addCycleOnPageCross o (s.addCycles d.baseCycles)).1]
    else []

theorem pushAddresses_of_not_mem {m : Mnemonic} (h : m ∉ pushingMnemonics) (sp : Byte) : pushAddresses m sp = [] := by
  unfold pushAddresses
  split
  case h_5 => rfl
  all_goals simp [pushingMnemonics] at h

theorem mem_pushAddresses {m : Mnemonic} {sp : Byte} {k : Word} (h : k ∈ pushAddresses m sp) :
    k = stackAddress sp ∨ k = stackAddress (sp - 1) ∨ k = stackAddress (sp - 2) := by
  unfold pushAddresses at h
  split at h <;> simp only [List.mem_cons, List.not_mem_nil, or_false] at h <;> tauto

theorem storing_not_pushing : ∀ m ∈ storingMnemonics, m ∉ pushingMnemonics := by decide

theorem operandAddresses_of_mem {d : Descriptor} (h : d.mnemonic ∈ storingMnemonics) (o : Operand) (s : State) :
    operandAddresses d (some o) s = [(effectiveAddress d.addCycleOnPageCross o (s.addCycles d.baseCycles)).1] :=
  if_pos h

theorem operandAddresses_of_not_mem {d : Descriptor} (h : d.mnemonic ∉ storingMnemonics) (o : Option Operand)
    (s : State) : operandAddresses d o s = [] := by
  cases o
  · rfl
  · exact if_neg h

/-- An Implied instruction stores only where it pushes. -/
theorem storesOnly_implied {i : Instr} {d : Descriptor} (hd : i.descriptor = some d) (ho : i.operand = none)
    (s : State) : NextStoresOnly (pushAddresses d.mnemonic s.sp) s (exec i s) := by
  cases i
  case pha =>
    cases hd.symm.trans (Instr.descriptor_of 0x48 rfl rfl)
    exact storesOnly_impliedInstr 3 (f := pushA) (storesOnly_push8 (s := s.addCycles 3) (sp := s.sp) rfl _)
  case php =>
    cases hd.symm.trans (Instr.descriptor_of 0x08 rfl rfl)
    exact storesOnly_impliedInstr 3 (f := pushP) (storesOnly_push8 (s := s.addCycles 3) (sp := s.sp) rfl _)
  case brk =>
    cases hd.symm.trans (Instr.descriptor_of 0x00 rfl rfl)
    exact storesOnly_transferInstr 1 7 (f := softwareInterrupt)
      (storesOnly_takeInterrupt (s := s.addCycles 7) (sp := s.sp) rfl _ _ _)
  case pla =>
    exact storesOnly_impliedInstr 4 (f := pullA)
      (((keepsMem_pop8 _).trans (keepsMem_registers _ _ _ _ _ _ _)).storesOnly _)
  case plp =>
    exact storesOnly_impliedInstr 4 (f := pullP)
      (((keepsMem_pop8 _).trans (keepsMem_setFlags _ _)).storesOnly _)
  case rti =>
    exact storesOnly_transferInstr 1 6 (f := returnFromInterrupt) ((keepsMem_returnFromInterrupt _).storesOnly _)
  case rts =>
    exact storesOnly_transferInstr 1 6 (f := returnFromSubroutine)
      (((keepsMem_pop16 _).trans (keepsMem_setPc _ _)).storesOnly _)
  case jam02 | jam12 | jam22 | jam32 | jam42 | jam52 | jam62 | jam72 | jam92 | jamB2 | jamD2 | jamF2 =>
    exact ((keepsMem_addCycles s 2).trans (keepsMem_setHalted _ _)).next _
  case nop | nopImp1A | nopImp3A | nopImp5A | nopImp7A | nopImpDA | nopImpFA => exact storesOnly_skipInstr _ 1 2 s
  case aslImp | lsrImp | rolImp | rorImp | clc | sec | cli | sei | clv | cld | sed | inx | iny | dex | dey | tax | tay
    | txa | tya | tsx | txs =>
    refine storesOnly_impliedInstr 2 ?_
    exact (keepsMem_registers _ _ _ _ _ _ _).storesOnly _
  all_goals cases ho

/-- A row of the write or read-modify-write class stores through its effective address alone. -/
theorem storesOnly_storing {i : Instr} {d : Descriptor} {o : Operand} (hd : i.descriptor = some d)
    (ho : i.operand = some o) (hm : d.mnemonic ∈ storingMnemonics) (s : State) :
    NextStoresOnly [(effectiveAddress d.addCycleOnPageCross o (s.addCycles d.baseCycles)).1] s (exec i s) := by
  have he := (keepsMem_addCycles s d.baseCycles).trans (keepsMem_effectiveAddress d.addCycleOnPageCross o _)
  by_cases h : raisesBusError s (effectiveAddress d.addCycleOnPageCross o (s.addCycles d.baseCycles)).1
  · intro t ht
    rw [exec_storing_raises hd ho hm h] at ht
    cases ht
  · cases storingMeaning o hm with
    | write v hr =>
      rw [exec_write hd ho hm hr h]
      exact (((he.storesOnly _).trans (storesOnly_busStore _ _ _)).trans ((keepsMem_setPc _ _).storesOnly _)).next
    | rmw op post hr hp =>
      have hpc (m : Byte) (t : State) : (post m t).pc = t.pc := by obtain ⟨a, p, h⟩ := hp m t; rw [h]
      have hmem (m : Byte) (t : State) : KeepsMem t (post m t) := by
        obtain ⟨a, p, h⟩ := hp m t
        rw [h]
        exact keepsMem_registers t _ _ _ _ _ _
      rw [exec_rmw hd ho hm hr hpc h]
      exact ((((he.trans (keepsMem_busRead _ _)).storesOnly _).trans (storesOnly_busStore _ _ _)).trans
        ((((keepsMem_setFlags _ _).trans (hmem _ _)).trans (keepsMem_setPc _ _)).storesOnly _)).next

/-- A row with an operand that writes no memory, the control transfers apart. -/
theorem storesOnly_rowMeaning {d : Descriptor} {o : Operand} {f : State → Result} (hf : rowMeaning d o = some f)
    (hm : d.mnemonic ∉ storingMnemonics) (ks : List Word) (s : State) : NextStoresOnly ks s (f s) := by
  unfold rowMeaning at hf
  cases hn : d.mnemonic <;> simp only [hn, Option.some.injEq, reduceCtorEq] at hf
  case lda | ldx | ldy | lax | adc | sbc | usbc | and | ora | eor | bit | cmp | cpx | cpy =>
    subst hf
    exact storesOnly_readInstr ks _ _ o (fun _ t => keepsMem_registers t _ _ _ _ _ _) s
  case anc | alr | arr | sbx | las =>
    subst hf
    exact storesOnly_stubInstr ks _ _ _ o (fun _ t => keepsMem_registers t _ _ _ _ _ _) s
  case nop =>
    split at hf <;> cases hf
    · exact storesOnly_skipInstr ks _ _ s
    · exact storesOnly_nopMemoryInstr ks _ _ o s
  case ane | lxa | sha | shx | shy | tas => subst hf; exact storesOnly_refuse ks _ s _
  all_goals exact absurd (hn ▸ by decide) hm

/-- A branch, a JMP or a JSR stores only where it pushes. -/
theorem storesOnly_isTransfer {i : Instr} {d : Descriptor} (hd : i.descriptor = some d) (ht : IsTransfer i)
    (s : State) : NextStoresOnly (pushAddresses d.mnemonic s.sp) s (exec i s) := by
  rcases ht with ⟨off, ho⟩ | ⟨k, rfl | rfl | rfl⟩
  · obtain ⟨c, -, he⟩ := exec_branch hd ho s
    rw [he]
    exact storesOnly_branchInstr _ 2 c off s
  · cases hd.symm.trans (Instr.descriptor_of 0x20 rfl rfl)
    have hpush := storesOnly_push16 (s := fetchOperand16 (s.addCycles 6)) (sp := s.sp) (read16_sp _ _) (s.pc + 1)
    exact storesOnly_transferInstr 3 6 (f := callSubroutine k)
      ((((keepsMem_read16 _ _).storesOnly _).trans hpush).trans ((keepsMem_setPc _ _).storesOnly _))
  · exact storesOnly_transferInstr 3 3 (f := jumpTo (.absolute k))
      (((keepsMem_effectiveAddress _ _ _).trans (keepsMem_setPc _ _)).storesOnly _)
  · exact storesOnly_transferInstr 3 5 (f := jumpTo (.indirect k))
      (((keepsMem_effectiveAddress _ _ _).trans (keepsMem_setPc _ _)).storesOnly _)

/-- Every instruction stores only where it pushes or, if it writes memory, at its effective address. -/
theorem exec_storesOnly {i : Instr} {d : Descriptor} (hd : i.descriptor = some d) (s : State) :
    NextStoresOnly (pushAddresses d.mnemonic s.sp ++ operandAddresses d i.operand s) s (exec i s) := by
  cases ho : i.operand with
  | none => exact (storesOnly_implied hd ho s).mono (List.subset_append_left _ _)
  | some o =>
    by_cases hm : d.mnemonic ∈ storingMnemonics
    · rw [operandAddresses_of_mem hm]
      exact (storesOnly_storing hd ho hm s).mono (List.subset_append_right _ _)
    · rcases (agrees i).2 with hnone | hrow | ht
      · cases ho.symm.trans hnone
      · rw [hd, ho] at hrow
        obtain ⟨f, hf⟩ := Option.ne_none_iff_exists'.1 hrow
        rw [exec_rowMeaning hd ho hf]
        exact storesOnly_rowMeaning hf hm _ s
      · exact (storesOnly_isTransfer hd ht s).mono (List.subset_append_left _ _)

end Sys2Proof.Machine
end

section
/-! SUPPORT. One step: which way it goes (R85, R202), and the PPU's turn in full (R211). -/

namespace Sys2Proof.Machine

/-- The fetch of bytes that decode: the instruction, and PC past its opcode (R85). -/
theorem fetch_of_decode {s : State} {i : Instr} {rest : List Byte}
    (h : decode ((busRead s.pc s).1 :: peekOperandBytes ((busRead s.pc s).2.setPc (s.pc + 1))) = .ok (i, rest)) :
    fetch s = (.ok i, (busRead s.pc s).2.setPc (s.pc + 1)) := by
  simp only [fetch, fetchOpcode, busRead_pc, h]

theorem cpuStep_halted {s : State} (h : s.halted = true) : cpuStep s = .next s := by
  rw [cpuStep, if_pos h]

/-- With no interrupt to service, a CPU step runs the instruction at PC (R202, R205). -/
theorem cpuStep_runs {s : State} (hh : s.halted = false) (hn : s.nmiPending = false)
    (hi : s.irqPending = true → s.p.i = true) : cpuStep s = runInstruction s := by
  have hirq : (s.irqPending && !s.p.i) = false := by
    cases hp : s.irqPending
    · rfl
    · rw [hi hp]; rfl
  simp only [cpuStep, hh, hn, hirq, Bool.false_eq_true, if_false]

/-- The PPU's turn under `Nes`: its ticks, and the NMI output handed to the CPU's latch (R208, R211). -/
theorem couplePpu_nes (c0 : Nat) {s : State} (h : s.params.busVariant = .nes) : couplePpu c0 s =
    (let q := ppuTick s.cart (3 * (s.cycles - c0)) s.ppu
     { s with ppu := { q with nmiOut := false }, nmiPending := s.nmiPending || q.nmiOut }) := by
  have hnmi : (couplePpu c0 s).nmiPending =
      (s.nmiPending || (ppuTick s.cart (3 * (s.cycles - c0)) s.ppu).nmiOut) := by
    simp only [couplePpu, h]
    split
    · next hq => rw [hq, Bool.or_true]; rfl
    · next hq => rw [Bool.eq_false_iff.2 hq, Bool.or_false]; rfl
  rw [couplePpu_frame, couplePpu_ppu h, hnmi]

/-- The PPU has no turn where no cycle has passed and its NMI output is clear. -/
theorem couplePpu_self {s : State} (h : s.ppu.nmiOut = false) : couplePpu s.cycles s = s := by
  cases hb : s.params.busVariant with
  | flatRam => exact couplePpu_flat hb
  | nes =>
    rw [couplePpu_nes _ hb, Nat.sub_self]
    simp only [ppuTick, h, Bool.or_false]
    rw [← h]

end Sys2Proof.Machine
end

section
/-! SUPPORT. The proofs of the statements about the execution of instructions: what each leaves, what it stores, and the
step it runs in. -/

namespace Sys2Proof.Settled

open Sys2Proof.Machine

/-- Settles O44: each mode's equation; the page-cross cycle and the pointer's page wrap are put in the rules' words. -/
theorem effectiveAddresses : Obligations.EffectiveAddresses := by
  intro flagged s b w off
  simp only [← pageCross_eq, ← indirectHigh_eq]
  exact ⟨rfl, rfl, rfl, rfl, rfl, rfl, rfl, rfl, rfl, rfl, rfl⟩

/-- Settles O18: the four rows are of the write class. -/
theorem storeInstructions : Obligations.StoreInstructions := by
  intro i o d s hd ho e pc h
  have hstore {m : Mnemonic} (hm : d.mnemonic = m) (hmem : m ∈ storingMnemonics) {v : State → Byte}
      (hr : rowMeaning d o = some fun s => writeInstr d.baseCycles o (v s) s) :
      exec i s = .next { busStore e.1 (v s) e.2 with pc := pc } :=
    exec_write hd ho (hm ▸ hmem) hr h
  refine ⟨fun hm => ?_, fun hm => ?_, fun hm => ?_, fun hm => ?_⟩
  · exact hstore hm (by decide) (v := State.a) (by simp only [rowMeaning, hm])
  · exact hstore hm (by decide) (v := State.x) (by simp only [rowMeaning, hm])
  · exact hstore hm (by decide) (v := State.y) (by simp only [rowMeaning, hm])
  · exact hstore hm (by decide) (v := fun s => s.a &&& s.x) (by simp only [rowMeaning, hm])

/-- Settles O19: both storing classes end at the write. -/
theorem writesToPrgFault : Obligations.WritesToPrgFault := by
  intro i o d s hd ho hm e h
  exact exec_storing_raises hd ho hm h

/-- Settles O23: ADC is of the read class, with the adder as its effect. -/
theorem adcAddsWithCarry : Obligations.AdcAddsWithCarry := by
  intro i o d s hd ho hm
  rw [exec_read hd ho (f := addA) (by simp only [rowMeaning, hm]) (fun _ _ => rfl)]
  simp only [addA, readOperand_a, readOperand_p, State.addCycles_a, State.addCycles_p, add_eq]
  rfl

/-- Settles O24: SBC and USBC are of the read class, with the subtracter as their effect. -/
theorem sbcSubtractsWithBorrow : Obligations.SbcSubtractsWithBorrow := by
  intro i o d s hd ho hm
  have hr : rowMeaning d o = some (readInstr d.baseCycles d.addCycleOnPageCross o subA) := by
    rcases hm with hm | hm <;> simp only [rowMeaning, hm]
  rw [exec_read hd ho hr (fun _ _ => rfl)]
  simp only [subA, readOperand_a, readOperand_p, State.addCycles_a, State.addCycles_p, sub_eq]
  rfl

/-- Settles O25: the adder's V is signed overflow, and the subtracter adds the complement. -/
theorem overflowFlagIsSignedOverflow : Obligations.OverflowFlagIsSignedOverflow := by
  intro a m p
  refine ⟨add_v_iff_overflow a m p, ?_⟩
  rw [sub, add_v_iff_overflow, toInt_xor_0xFF]
  omega

/-- Settles O27: the three compares are of the read class, with the comparator's flags as their effect. -/
theorem compareInstructions : Obligations.CompareInstructions := by
  intro i o d s hd ho m left
  have hcompare {f : Byte → State → State} {reg : State → Byte} {v : Byte}
      (hr : rowMeaning d o = some (readInstr d.baseCycles d.addCycleOnPageCross o f))
      (hf : ∀ n t, f n t = t.setFlags (compareFlags (reg t) n t.p)) (hreg : reg m.2 = v) : exec i s = left v := by
    rw [exec_read hd ho hr fun n t => by rw [hf, State.setFlags_pc]]
    simp only [hf, hreg, m, readOperand_p, State.addCycles_p, compareFlags_eq]
    rfl
  refine ⟨fun hm => ?_, fun hm => ?_, fun hm => ?_⟩
  · exact hcompare (f := compareA) (reg := State.a) (by simp only [rowMeaning, hm]) (fun _ _ => rfl)
      (readOperand_a _ _ _)
  · exact hcompare (f := compareX) (reg := State.x) (by simp only [rowMeaning, hm]) (fun _ _ => rfl)
      (readOperand_x _ _ _)
  · exact hcompare (f := compareY) (reg := State.y) (by simp only [rowMeaning, hm]) (fun _ _ => rfl)
      (readOperand_y _ _ _)

/-- Settles O30: the accumulator forms are Implied instructions, with the shifter as their effect. -/
theorem shiftAccumulator : Obligations.ShiftAccumulator := by
  intro s left
  have hshift (op : Byte → Flags → Byte × Flags) : impliedInstr 2 (shiftA op) s =
      .next { s with a := (op s.a s.p).1, p := (op s.a s.p).2, cycles := s.cycles + 2 } :=
    impliedInstr_eq 2 (f := shiftA op) (fun _ => rfl) s
  refine ⟨(hshift asl).trans ?_, (hshift lsr).trans ?_, (hshift rol).trans ?_, (hshift ror).trans ?_⟩
  · rw [asl_eq]
  · rw [lsr_eq]
  · rw [rol_eq]
  · rw [ror_eq]

/-- Settles O31: the memory forms are of the read-modify-write class, with the shifter and no further effect. -/
theorem shiftMemory : Obligations.ShiftMemory := by
  intro i o d s hd ho e m left h
  have hshift {n : Mnemonic} (hm : d.mnemonic = n) (hmem : n ∈ storingMnemonics)
      {op : Byte → Flags → Byte × Flags} (hr : rowMeaning d o = some (rmwInstr d.baseCycles o op noMore)) :
      exec i s = .next { busStore e.1 (op m.1 s.p).1 m.2 with
        p := (op m.1 s.p).2, pc := s.pc + BitVec.ofNat 16 (d.length - 1) } :=
    exec_rmw hd ho (hm ▸ hmem) hr (fun _ _ => rfl) h
  refine ⟨fun hm => ?_, fun hm => ?_, fun hm => ?_, fun hm => ?_⟩
  · rw [hshift hm (by decide) (op := asl) (by simp only [rowMeaning, hm]), asl_eq]
  · rw [hshift hm (by decide) (op := lsr) (by simp only [rowMeaning, hm]), lsr_eq]
  · rw [hshift hm (by decide) (op := rol) (by simp only [rowMeaning, hm]), rol_eq]
  · rw [hshift hm (by decide) (op := ror) (by simp only [rowMeaning, hm]), ror_eq]

/-- Settles O22: the stack page is plain storage, and SP comes back. -/
theorem popReturnsPushedByte : Obligations.PopReturnsPushedByte := by
  intro s v hm
  obtain ⟨⟨hwram, -⟩, -, ⟨hram, -⟩, -⟩ := s.memoriesOk_iff.1 hm
  refine ⟨rfl, ?_, pop8_push8 hm v⟩
  rw [push8_eq, busRead_setSp_fst]
  exact busRead_busStore_stack hwram hram s.sp v

/-- Settles O21: each is Implied, with a push or a pop as its effect. -/
theorem stackInstructions : Obligations.StackInstructions := by
  intro s
  refine ⟨?_, ?_, ?_, ?_⟩
  · rw [← stackAddress, ← push8_addCycles]
    exact impliedInstr_eq 3 (f := pushA) (fun t => busStore_pc _ _ t) s
  · rw [← stackAddress, ← push8_addCycles]
    exact impliedInstr_eq 3 (f := pushP) (fun t => busStore_pc _ _ t) s
  · refine (impliedInstr_eq 4 (f := pullA) (fun t => busRead_pc _ _) s).trans ?_
    simp only [pullA, pop8_eq, busRead_addCycles_fst]
    rfl
  · refine (impliedInstr_eq 4 (f := pullP) (fun t => busRead_pc _ _) s).trans ?_
    simp only [pullP, pop8_eq, busRead_addCycles_fst]
    rfl

/-- Settles O33: a branch does what its condition says. -/
theorem branchInstructions : Obligations.BranchInstructions := by
  intro i off d s hd ho next target n
  obtain ⟨c, hc, he⟩ := exec_branch hd ho s
  rw [hc, he]
  refine ⟨fun h => ?_, fun h => ?_⟩ <;> cases h
  · exact branchInstr_notTaken 2 off s
  · have hn : s.cycles + n = s.cycles + 2 + (if hi8 target = hi8 next then 1 else 2) := by
      simp only [n]; split <;> rfl
    rw [branchInstr_taken, hn, ← busRead_cycles s.pc s]
    rfl

/-- Settles O34: both forms are control transfers to the effective address. -/
theorem jumpInstructions : Obligations.JumpInstructions := by
  intro w s u l h
  refine ⟨?_, ?_⟩
  · exact transferInstr_eq 3 3 (f := jumpTo (.absolute w)) (u := u) (t := w) rfl (keeps_read16 _ _).params
  · refine transferInstr_eq 3 5 (f := jumpTo (.indirect w)) (u := h.2) (t := w16 h.1 l.1) ?_ ?_
    · simp only [jumpTo, effectiveAddress, indirectTarget, indirectHigh_eq]
      rfl
    · exact ((keeps_read16 _ _).trans ((keeps_busRead _ _).trans (keeps_busRead _ _))).params

/-- Settles O35: JSR pushes the address of its last byte, RTS goes one past it. -/
theorem subroutineInstructions : Obligations.SubroutineInstructions := by
  intro w s u ret
  refine ⟨?_, ?_⟩
  · refine transferInstr_eq 3 6 (f := callSubroutine w) (u := { u with sp := s.sp - 2, cycles := s.cycles + 6 })
      (t := w) (s := s) ?_ ?_
    · simp only [callSubroutine, fetchOperand16, State.addCycles_pc, read16_addCycles, push16_addCycles, read16_sp,
        read16_cycles]
      rfl
    · simp only [u, busStore_params]
      exact (keeps_read16 _ _).params
  · refine (transferInstr_one 6 returnFromSubroutine (s := s) (keeps_pop16 _).params).trans ?_
    simp only [returnFromSubroutine, pop16_eq, busRead_addCycles_fst]
    rfl

/-- Settles O36: BRK takes its interrupt; the three stores are on the stack page, where a store costs nothing. -/
theorem brkTakesInterrupt : Obligations.BrkTakesInterrupt := by
  intro s u
  refine (transferInstr_one 7 softwareInterrupt (s := s) (keeps_takeInterrupt _ _ _ _).params).trans ?_
  rw [softwareInterrupt, takeInterrupt_eq (by decide) (by decide)]
  simp only [busStore_addCycles, read16_addCycles, State.addCycles_cycles, busStore_stack_cycles]
  rfl

/-- Settles O37: RTI is the return from an interrupt. -/
theorem rtiReturns : Obligations.RtiReturns := by
  intro s f ret
  refine (transferInstr_one 6 returnFromInterrupt (s := s) (keeps_returnFromInterrupt _).params).trans ?_
  simp only [returnFromInterrupt_eq, busRead_addCycles_fst]
  rfl

/-- Settles O5: the fetch and the order of R202 give the CPU step, `couplePpu_nes` and `couplePpu_flat` the PPU's
turn. -/
theorem stepRunsDecodedInstruction : Obligations.StepRunsDecodedInstruction := by
  refine ⟨fun s i rest hu hh hn hi hdec => ?_, fun s hu => step_of_unmarked hu, fun c0 u => ⟨rfl, ?_, ?_⟩,
    fun _ _ => rfl, fun _ _ => rfl⟩
  · rw [step_of_unmarked hu, cpuStep_runs hh hn hi, runInstruction, fetch_of_decode hdec]
  · exact couplePpu_nes c0
  · exact couplePpu_flat

/-- Settles O13: no CPU cycle passes, so the PPU does not tick. -/
theorem haltedStepChangesNothing : Obligations.HaltedStepChangesNothing := by
  intro s hu hh hn
  rw [step_of_unmarked hu, cpuStep_halted hh, afterCpu, couplePpu_self hn]

/-- Settles O46: the one address stored through is the effective address. -/
theorem storesChangeOnlyTheStoredByte : Obligations.StoresChangeOnlyTheStoredByte := by
  intro i o d s t hd ho hm ht e
  have h := storesOnly_storing hd ho hm s t ht
  refine ⟨fun a ha => h.stored a ?_, fun hp hdma => h.ppu ?_⟩
  · simpa using ha
  · simpa using ⟨hp, hdma⟩

/-- Settles O47: the addresses stored through are those pushed to, which are no devices. -/
theorem pushesChangeOnlyTheStack : Obligations.PushesChangeOnlyTheStack := by
  intro i d s t hd hm ht
  have h := exec_storesOnly hd s t ht
  rw [operandAddresses_of_not_mem fun hs => storing_not_pushing _ hs hm, List.append_nil] at h
  refine ⟨fun a h0 h1 h2 => h.stored a fun k hk => ?_, fun hp a h0 => h.stored a fun k hk => ?_,
    h.ppu fun k hk => ?_⟩
  · rcases mem_pushAddresses hk with rfl | rfl | rfl <;> assumption
  · rcases hp with hp | hp <;> rw [hp, pushAddresses, List.mem_singleton] at hk <;> exact hk ▸ h0
  · rcases mem_pushAddresses hk with rfl | rfl | rfl <;> exact stack_not_device s _

/-- Settles O48: no address is stored through. -/
theorem otherInstructionsKeepMemory : Obligations.OtherInstructionsKeepMemory := by
  intro i d s t hd hm ht
  have h := exec_storesOnly hd s t ht
  have hnil : pushAddresses d.mnemonic s.sp ++ operandAddresses d i.operand s = [] := by
    rcases hm with hm | ⟨hm, ho⟩
    · obtain ⟨hs, hp⟩ := not_or.1 (mt List.mem_append.2 hm)
      rw [pushAddresses_of_not_mem hp, operandAddresses_of_not_mem hs, List.append_nil]
    · rw [ho, pushAddresses_of_not_mem (storing_not_pushing _ hm)]
      rfl
  rw [hnil] at h
  exact ⟨fun a => h.stored a nofun, h.ppu nofun⟩

end Sys2Proof.Settled
end

section
/-! SUPPORT. The proofs of the statements about the loads and the register transfers (R113 to R115, R119 to R124,
R177). -/

namespace Sys2Proof.Settled

open Sys2Proof.Machine

/-- Settles O17: the four rows are of the read class, and the operand read leaves the flags they write into. -/
theorem loadInstructions : Obligations.LoadInstructions := by
  intro i o d s hd ho m p pc
  have hp : p = setNZ m.1 m.2.p := by
    simp only [p, m, setNZ, readOperand_p, State.addCycles_p]
  rw [hp]
  refine ⟨fun hm => ?_, fun hm => ?_, fun hm => ?_, fun hm => ?_⟩
  · exact exec_read hd ho (f := loadA) (by simp only [rowMeaning, hm]) (fun _ _ => rfl) s
  · exact exec_read hd ho (f := loadX) (by simp only [rowMeaning, hm]) (fun _ _ => rfl) s
  · exact exec_read hd ho (f := loadY) (by simp only [rowMeaning, hm]) (fun _ _ => rfl) s
  · exact exec_read hd ho (f := loadAX) (by simp only [rowMeaning, hm]) (fun _ _ => rfl) s

/-- Settles O20: each is Implied, and all but TXS set Z and N from the byte they move. -/
theorem transferInstructions : Obligations.TransferInstructions := by
  intro s
  refine ⟨?_, ?_, ?_, ?_, ?_, ?_⟩
  · exact impliedInstr_eq 2 (f := transferAX) (fun _ => rfl) s
  · exact impliedInstr_eq 2 (f := transferAY) (fun _ => rfl) s
  · exact impliedInstr_eq 2 (f := transferXA) (fun _ => rfl) s
  · exact impliedInstr_eq 2 (f := transferYA) (fun _ => rfl) s
  · exact impliedInstr_eq 2 (f := transferSX) (fun _ => rfl) s
  · exact impliedInstr_eq 2 (f := transferXS) (fun _ => rfl) s

end Sys2Proof.Settled
end

section
/-! SUPPORT. The proofs of the statements about the logic instructions and about increment and decrement (R132 to R135,
R139 to R144). -/

namespace Sys2Proof.Settled

open Sys2Proof.Machine

/-- Settles O26: the four rows are of the read class, and the operand read leaves the A and the flags their effects
start from. -/
theorem logicInstructions : Obligations.LogicInstructions := by
  intro i o d s hd ho m left
  have ha : s.a = m.2.a := by simp only [m, readOperand_a, State.addCycles_a]
  have hp : s.p = m.2.p := by simp only [m, readOperand_p, State.addCycles_p]
  simp only [left, ha, hp]
  refine ⟨fun hm => ?_, fun hm => ?_, fun hm => ?_, fun hm => ?_⟩
  · exact exec_read hd ho (f := andA) (by simp only [rowMeaning, hm]) (fun _ _ => rfl) s
  · exact exec_read hd ho (f := oraA) (by simp only [rowMeaning, hm]) (fun _ _ => rfl) s
  · exact exec_read hd ho (f := eorA) (by simp only [rowMeaning, hm]) (fun _ _ => rfl) s
  · exact exec_read hd ho (f := bitTest) (by simp only [rowMeaning, hm]) (fun _ _ => rfl) s

/-- Settles O28: INC and DEC are of the read-modify-write class; Z and N are set after the write, from the byte
written. -/
theorem incDecMemory : Obligations.IncDecMemory := by
  intro i o d s hd ho e m left h
  refine ⟨fun hm => ?_, fun hm => ?_⟩
  · have hr : rowMeaning d o = some (rmwInstr d.baseCycles o incByte State.setNZ) := by simp only [rowMeaning, hm]
    exact exec_rmw hd ho (hm ▸ by decide) hr (fun _ _ => rfl) h
  · have hr : rowMeaning d o = some (rmwInstr d.baseCycles o decByte State.setNZ) := by simp only [rowMeaning, hm]
    exact exec_rmw hd ho (hm ▸ by decide) hr (fun _ _ => rfl) h

/-- Settles O29: each is Implied, with Z and N from the register it counts. -/
theorem incDecRegisters : Obligations.IncDecRegisters := by
  intro s flags
  refine ⟨?_, ?_, ?_, ?_⟩
  · exact impliedInstr_eq 2 (f := incX) (fun _ => rfl) s
  · exact impliedInstr_eq 2 (f := incY) (fun _ => rfl) s
  · exact impliedInstr_eq 2 (f := decX) (fun _ => rfl) s
  · exact impliedInstr_eq 2 (f := decY) (fun _ => rfl) s

end Sys2Proof.Settled
end

section
/-! SUPPORT. What a NOP does, by its operand (R170, R180), and the proofs of the statements about the flag instructions
and about NOP (R163 to R170, R180). -/

namespace Sys2Proof.Machine

/-- A NOP without an operand skips. -/
theorem exec_nop_implied {i : Instr} {d : Descriptor} (hd : i.descriptor = some d) (hm : d.mnemonic = .nop)
    (ho : i.operand = none) (s : State) : exec i s = skipInstr d.length d.baseCycles s := by
  cases i
  case nop | nopImp1A | nopImp3A | nopImp5A | nopImp7A | nopImpDA | nopImpFA =>
    cases hd.symm.trans (Instr.descriptor_of _ rfl rfl)
    rfl
  case brk | php | plp | pha | pla | rti | rts | jam02 | jam12 | jam22 | jam32 | jam42 | jam52 | jam62 | jam72 | jam92
    | jamB2 | jamD2 | jamF2 | aslImp | lsrImp | rolImp | rorImp | clc | sec | cli | sei | clv | cld | sed | inx | iny
    | dex | dey | tax | tay | txa | tya | tsx | txs =>
    cases hd.symm.trans (Instr.descriptor_of _ rfl rfl)
    cases hm
  all_goals cases ho

/-- A NOP without a memory operand skips. -/
theorem exec_nop_skips {i : Instr} {d : Descriptor} (hd : i.descriptor = some d) (hm : d.mnemonic = .nop)
    (h : i.operand = none ∨ d.mode = .immediate) (s : State) : exec i s = skipInstr d.length d.baseCycles s := by
  cases ho : i.operand with
  | none => exact exec_nop_implied hd hm ho s
  | some o =>
    have hi : d.mode = .immediate := h.resolve_left (by simp [ho])
    exact exec_rowMeaning hd ho (by simp only [rowMeaning, hm, hi, if_true]) s

/-- The access of a NOP with a memory operand (R180): the operand's read, or only its address, or nothing. -/
def nopAccess (flagged : Bool) (o : Operand) (s : State) : State :=
  if s.params.nopReadsOperand then (readOperand flagged o s).2
  else if flagged then (effectiveAddress flagged o s).2
  else s

theorem nopAccess_pc (flagged : Bool) (o : Operand) (s : State) : (nopAccess flagged o s).pc = s.pc := by
  unfold nopAccess
  split
  · exact readOperand_pc flagged o s
  · split
    · exact effectiveAddress_pc flagged o s
    · rfl

section
variable {s : State} (o : Operand)

theorem nopAccess_reads (flagged : Bool) (h : s.params.nopReadsOperand = true) :
    nopAccess flagged o s = (readOperand flagged o s).2 := if_pos h

theorem nopAccess_flagged (h : s.params.nopReadsOperand = false) :
    nopAccess true o s = (effectiveAddress true o s).2 := by
  rw [nopAccess, h]
  rfl

theorem nopAccess_unflagged (h : s.params.nopReadsOperand = false) : nopAccess false o s = s := by
  rw [nopAccess, h]
  rfl

end

/-- A NOP with a memory operand: base cycles, its access, and PC past the operand bytes. -/
theorem nopMemoryInstr_eq (base : Nat) (flagged : Bool) (o : Operand) (s : State) :
    nopMemoryInstr base flagged o s =
      .next ((nopAccess flagged o (s.addCycles base)).setPc (s.pc + BitVec.ofNat 16 (o.mode.length - 1))) :=
  congrArg Host.Outcome.next (advancePc_stay (nopAccess_pc flagged o (s.addCycles base)))

theorem exec_nop_memory {i : Instr} {d : Descriptor} {o : Operand} (hd : i.descriptor = some d)
    (hm : d.mnemonic = .nop) (ho : i.operand = some o) (h : d.mode ≠ .immediate) (s : State) :
    exec i s = .next ((nopAccess d.addCycleOnPageCross o (s.addCycles d.baseCycles)).setPc
      (s.pc + BitVec.ofNat 16 (d.length - 1))) := by
  have hr : rowMeaning d o = some (nopMemoryInstr d.baseCycles d.addCycleOnPageCross o) := by
    simp only [rowMeaning, hm, h, if_false]
  rw [exec_rowMeaning hd ho hr, nopMemoryInstr_eq, Instr.operand_length hd ho]

end Sys2Proof.Machine

namespace Sys2Proof.Settled

open Sys2Proof.Machine

/-- Settles O40: without a memory operand a NOP skips; with one, the parameter and the page-cross flag say what it
accesses. -/
theorem nopInstructions : Obligations.NopInstructions := by
  intro i d s hd hm s1 pc
  refine ⟨fun h => ?_, fun o ho h => ?_⟩
  · rw [exec_nop_skips hd hm h, skipInstr_eq]
    rfl
  · rw [exec_nop_memory hd hm ho h]
    refine ⟨fun hp hf => ?_, fun hp hf => ?_, fun hp => ?_⟩
    · rw [hf, nopAccess_unflagged o (by simpa using hp)]
      rfl
    · rw [hf, nopAccess_flagged o (by simpa using hp)]
      rfl
    · rw [nopAccess_reads o _ (by simpa using hp)]
      rfl

/-- Settles O39: each is Implied, and writes its one flag. -/
theorem flagInstructions : Obligations.FlagInstructions := by
  intro s left
  refine ⟨?_, ?_, ?_, ?_, ?_, ?_, ?_⟩
  · exact impliedInstr_eq 2 (f := clearC) (fun _ => rfl) s
  · exact impliedInstr_eq 2 (f := setC) (fun _ => rfl) s
  · exact impliedInstr_eq 2 (f := clearI) (fun _ => rfl) s
  · exact impliedInstr_eq 2 (f := setI) (fun _ => rfl) s
  · exact impliedInstr_eq 2 (f := clearV) (fun _ => rfl) s
  · exact impliedInstr_eq 2 (f := clearD) (fun _ => rfl) s
  · exact impliedInstr_eq 2 (f := setD) (fun _ => rfl) s

end Sys2Proof.Settled
end

section
/-! SUPPORT. The undocumented instructions: a composite's register operation after its write (R171 to R176), the halt of
JAM (R181), and the stubs by policy (R182 to R195). -/

namespace Sys2Proof

/-- An instruction takes no operand exactly where its row's mode is Implied. -/
theorem Instr.operand_eq_none_iff {i : Instr} {d : Descriptor} (hd : i.descriptor = some d) :
    i.operand = none ↔ d.mode = .implied := by
  obtain ⟨e, he, -, ho, -⟩ := i.descriptor_matches
  cases hd.symm.trans he
  rw [← Option.map_eq_none_iff (f := Operand.mode), ho, ite_eq_left_iff]
  simp only [reduceCtorEq, imp_false, not_not]

end Sys2Proof

namespace Sys2Proof.Machine

/-- The logic operation `op` on A and a byte: the new A, with Z and N from it (R132 to R134). -/
def accNZ (op : Byte → Byte → Byte) (a v : Byte) (p : Flags) : Byte × Flags := (op a v, setNZ (op a v) p)

/-- A composite, where the write does not raise: the register operation `acc` has the A of before, the byte written and
the flags the first component left. -/
theorem exec_composite {i : Instr} {d : Descriptor} {o : Operand} (hd : i.descriptor = some d)
    (ho : i.operand = some o) (hm : d.mnemonic ∈ storingMnemonics) {op : Byte → Flags → Byte × Flags}
    {post : Byte → State → State} {acc : Byte → Byte → Flags → Byte × Flags}
    (hr : rowMeaning d o = some (rmwInstr d.baseCycles o op post))
    (hp : ∀ v t, post v t = { t with a := (acc t.a v t.p).1, p := (acc t.a v t.p).2 }) {s : State}
    (h : ¬ raisesBusError s (effectiveAddress d.addCycleOnPageCross o (s.addCycles d.baseCycles)).1) :
    exec i s =
      (let e := effectiveAddress d.addCycleOnPageCross o (s.addCycles d.baseCycles)
       let m := busRead e.1 e.2
       let r := op m.1 s.p
       let q := acc s.a r.1 r.2
       .next { busStore e.1 r.1 m.2 with a := q.1, p := q.2, pc := s.pc + BitVec.ofNat 16 (d.length - 1) }) := by
  rw [exec_rmw hd ho hm hr (fun v t => by rw [hp]) h]
  simp only [hp, State.setFlags_a, State.setFlags_p, busStore_a, busRead_a, effectiveAddress_a, State.addCycles_a]
  rfl

theorem jam_operand {i : Instr} {d : Descriptor} (hd : i.descriptor = some d) (hm : d.mnemonic = .jam) :
    i.operand = none := by
  have hmode : ∀ e ∈ opcodes, e.mnemonic = .jam → e.mode = .implied := by decide +kernel
  exact (Instr.operand_eq_none_iff hd).2 (hmode d (mem_opcodes hd) hm)

/-- The twelve JAM rows have one meaning. -/
theorem exec_jam {i : Instr} {d : Descriptor} (hd : i.descriptor = some d) (hm : d.mnemonic = .jam) (s : State) :
    exec i s = jam s := by
  have ho := jam_operand hd hm
  cases i
  case jam02 | jam12 | jam22 | jam32 | jam42 | jam52 | jam62 | jam72 | jam92 | jamB2 | jamD2 | jamF2 => rfl
  case brk | php | plp | pha | pla | rti | rts | nop | nopImp1A | nopImp3A | nopImp5A | nopImp7A | nopImpDA | nopImpFA
    | aslImp | lsrImp | rolImp | rorImp | clc | sec | cli | sei | clv | cld | sed | inx | iny | dex | dey | tax | tay
    | txa | tya | tsx | txs =>
    cases hd.symm.trans (Instr.descriptor_of _ rfl rfl)
    cases hm
  all_goals cases ho

/-- The stubs that run under `Nmos` (R182 to R186). -/
def stableStubs : List Mnemonic := [.anc, .alr, .arr, .sbx, .las]

/-- The stubs refused under either policy (R187 to R192). -/
def unstableStubs : List Mnemonic := [.ane, .lxa, .sha, .shx, .shy, .tas]

section stubs
variable {i : Instr} {d : Descriptor} (hd : i.descriptor = some d)
include hd

theorem unstable_mnemonic (h : d.unstable = true) : d.mnemonic ∈ unstableStubs := by
  have hrows : ∀ e ∈ opcodes, e.unstable = true → e.mnemonic ∈ unstableStubs := by decide +kernel
  exact hrows d (mem_opcodes hd) h

theorem stub_operand (h : d.mnemonic ∈ unstableStubs ++ stableStubs) : ∃ o, i.operand = some o := by
  have hmode : ∀ e ∈ opcodes, e.mnemonic ∈ unstableStubs ++ stableStubs → e.mode ≠ .implied := by decide +kernel
  exact Option.ne_none_iff_exists'.1 (mt (Instr.operand_eq_none_iff hd).1 (hmode d (mem_opcodes hd) h))

theorem exec_unstable (h : d.unstable = true) (s : State) : exec i s = refuse d.code (s.addCycles d.baseCycles) := by
  have hm := unstable_mnemonic hd h
  obtain ⟨o, ho⟩ := stub_operand hd (List.mem_append_left stableStubs hm)
  have hr : rowMeaning d o = some (unstableInstr d.code d.baseCycles) := by
    simp only [unstableStubs, List.mem_cons, List.not_mem_nil, or_false] at hm
    rcases hm with hm | hm | hm | hm | hm | hm <;> simp only [rowMeaning, hm]
  exact exec_rowMeaning hd ho hr s

theorem exec_stable_refused (hm : d.mnemonic ∈ stableStubs) {s : State} (hs : s.params.stubPolicy = .refuse) :
    exec i s = refuse d.code (s.addCycles d.baseCycles) := by
  obtain ⟨o, ho⟩ := stub_operand hd (List.mem_append_right unstableStubs hm)
  obtain ⟨f, hr⟩ : ∃ f, rowMeaning d o = some (stubInstr d.code d.baseCycles d.addCycleOnPageCross o f) := by
    simp only [stableStubs, List.mem_cons, List.not_mem_nil, or_false] at hm
    rcases hm with hm | hm | hm | hm | hm
    · exact ⟨ancA, by simp only [rowMeaning, hm]⟩
    · exact ⟨alrA, by simp only [rowMeaning, hm]⟩
    · exact ⟨arrA, by simp only [rowMeaning, hm]⟩
    · exact ⟨sbxX, by simp only [rowMeaning, hm]⟩
    · exact ⟨lasAll, by simp only [rowMeaning, hm]⟩
  rw [exec_rowMeaning hd ho hr, stubInstr, hs]

/-- Under `Nmos` a stable stub is an instruction of the read class. -/
theorem exec_stable_nmos {o : Operand} {f : Byte → State → State} (ho : i.operand = some o)
    (hr : rowMeaning d o = some (stubInstr d.code d.baseCycles d.addCycleOnPageCross o f))
    (hf : ∀ m t, (f m t).pc = t.pc) {s : State} (hs : s.params.stubPolicy = .nmos) :
    exec i s =
      (let m := readOperand d.addCycleOnPageCross o (s.addCycles d.baseCycles)
       .next ((f m.1 m.2).setPc (s.pc + BitVec.ofNat 16 (d.length - 1)))) := by
  rw [exec_rowMeaning hd ho hr, stubInstr, hs]
  exact (readInstr_eq _ _ _ hf s).trans (by rw [Instr.operand_length hd ho])

end stubs

/-- A byte shifted right has no bit 7. -/
theorem half_getLsbD_seven (v : Byte) : (BitVec.ofNat 8 (v.toNat / 2)).getLsbD 7 = false := by
  rw [← ushiftRight_one_eq_ofNat, BitVec.getLsbD_ushiftRight]
  exact BitVec.getLsbD_of_ge v 8 le_rfl

end Sys2Proof.Machine

namespace Sys2Proof.Settled

open Sys2Proof.Machine

/-- Settles O32: the six rows are of the read-modify-write class, and the second component is an operation on A and the
flags. -/
theorem compositeInstructions : Obligations.CompositeInstructions := by
  intro i o d s hd ho e m left nz dbl rolled half rored h
  refine ⟨fun hm => ?_, fun hm => ?_, fun hm => ?_, fun hm => ?_, fun hm => ?_, fun hm => ?_⟩
  · have hr : rowMeaning d o = some (rmwInstr d.baseCycles o asl oraA) := by simp only [rowMeaning, hm]
    rw [exec_composite hd ho (hm ▸ by decide) (acc := accNZ (· ||| ·)) hr (fun _ _ => rfl) h]
    simp only [asl_eq]
    rfl
  · have hr : rowMeaning d o = some (rmwInstr d.baseCycles o rol andA) := by simp only [rowMeaning, hm]
    rw [exec_composite hd ho (hm ▸ by decide) (acc := accNZ (· &&& ·)) hr (fun _ _ => rfl) h]
    simp only [rol_eq]
    rfl
  · have hr : rowMeaning d o = some (rmwInstr d.baseCycles o lsr eorA) := by simp only [rowMeaning, hm]
    rw [exec_composite hd ho (hm ▸ by decide) (acc := accNZ (· ^^^ ·)) hr (fun _ _ => rfl) h]
    simp only [lsr_eq]
    rfl
  · have hr : rowMeaning d o = some (rmwInstr d.baseCycles o ror addA) := by simp only [rowMeaning, hm]
    rw [exec_composite hd ho (hm ▸ by decide) (acc := add) hr (fun _ _ => rfl) h]
    simp only [ror_eq]
    rfl
  · have hr : rowMeaning d o = some (rmwInstr d.baseCycles o decByte compareA) := by simp only [rowMeaning, hm]
    exact exec_composite hd ho (hm ▸ by decide) (acc := fun a v p => (a, compareFlags a v p)) hr (fun _ _ => rfl) h
  · have hr : rowMeaning d o = some (rmwInstr d.baseCycles o incByte subA) := by simp only [rowMeaning, hm]
    exact exec_composite hd ho (hm ▸ by decide) (acc := sub) hr (fun _ _ => rfl) h

/-- Settles O41: the twelve rows halt. -/
theorem jamHalts : Obligations.JamHalts := by
  intro i d s hd hm
  exact exec_jam hd hm s

/-- Settles O42: under `Nmos` the five are of the read class, and the operand read leaves the registers and flags their
effects start from. -/
theorem stableStubsUnderNmos : Obligations.StableStubsUnderNmos := by
  intro i o d s hd ho hs m pc am half rored ax v
  have ha : s.a = m.2.a := by simp only [m, readOperand_a, State.addCycles_a]
  have hx : s.x = m.2.x := by simp only [m, readOperand_x, State.addCycles_x]
  have hsp : s.sp = m.2.sp := by simp only [m, readOperand_sp, State.addCycles_sp]
  have hp : s.p = m.2.p := by simp only [m, readOperand_p, State.addCycles_p]
  simp only [half, rored, am, ax, v, ha, hx, hsp, hp]
  refine ⟨fun hm => ?_, fun hm => ?_, fun hm => ?_, fun hm => ?_, fun hm => ?_⟩
  · exact exec_stable_nmos hd ho (f := ancA) (by simp only [rowMeaning, hm]) (fun _ _ => rfl) hs
  · rw [exec_stable_nmos hd ho (f := alrA) (by simp only [rowMeaning, hm]) (fun _ _ => rfl) hs]
    simp only [alrA, lsr_eq, half_getLsbD_seven]
    rfl
  · rw [exec_stable_nmos hd ho (f := arrA) (by simp only [rowMeaning, hm]) (fun _ _ => rfl) hs]
    simp only [arrA, ushiftRight_one_or_carry]
    rfl
  · exact exec_stable_nmos hd ho (f := sbxX) (by simp only [rowMeaning, hm]) (fun _ _ => rfl) hs
  · exact exec_stable_nmos hd ho (f := lasAll) (by simp only [rowMeaning, hm]) (fun _ _ => rfl) hs

/-- Settles O43: the unstable rows refuse under either policy, the stable ones under `Refuse`. -/
theorem stubsRefused : Obligations.StubsRefused := by
  intro i d s hd h
  rcases h with h | ⟨hm, hs⟩
  · exact exec_unstable hd h s
  · exact exec_stable_refused hd hm hs

end Sys2Proof.Settled
end

section
/-! SUPPORT. The PPU's advance over a step (R211, R212, R223) and the host's sign of a complete frame (R224). -/

namespace Sys2Proof.Machine

theorem Ppu.countersOk_iff (p : Ppu) : p.countersOk = true ↔ p.scanline.toNat < 262 ∧ p.cycle.toNat < 341 := by
  simp only [Ppu.countersOk, Bool.and_eq_true, decide_eq_true_eq]

theorem Ppu.position_lt {p : Ppu} (h : p.countersOk = true) : p.position < 89342 := by
  obtain ⟨hs, hc⟩ := p.countersOk_iff.1 h
  rw [Ppu.position]
  omega

/-- The last place of the frame is the last cycle of scanline 261. -/
theorem Ppu.position_eq_last {p : Ppu} (h : p.countersOk = true) :
    p.position = 89341 ↔ p.scanline = 261 ∧ p.cycle = 340 := by
  obtain ⟨hs, hc⟩ := p.countersOk_iff.1 h
  rw [Ppu.position, ← BitVec.toNat_inj, ← BitVec.toNat_inj]
  change _ ↔ p.scanline.toNat = 261 ∧ p.cycle.toNat = 340
  omega

/-- A tick of `n` cycles reaches the end of the frame exactly when one of them is the frame's last. -/
theorem exists_last_cycle_iff (c : Cart) {p : Ppu} (h : p.countersOk = true) (n : Nat) :
    (∃ k, k < n ∧ (ppuTick c k p).scanline = 261 ∧ (ppuTick c k p).cycle = 340) ↔ 89342 ≤ p.position + n := by
  have hlt := Ppu.position_lt h
  have hlast (k : Nat) : ((ppuTick c k p).scanline = 261 ∧ (ppuTick c k p).cycle = 340) ↔
      (p.position + k) % 89342 = 89341 := by
    obtain ⟨hok, hpos⟩ := ppuTick_counters c k h
    rw [← Ppu.position_eq_last hok, hpos]
  simp only [hlast]
  constructor
  · rintro ⟨k, hk, hmod⟩
    omega
  · intro hn
    exact ⟨89341 - p.position, by omega, by omega⟩

/-- The host sees a complete frame exactly when the PPU's turn reaches the end of the frame. -/
theorem frameComplete_next_iff {s : State} (hs : s.params.busVariant = .nes) (t : State) :
    frameComplete s (.next t) = true ↔ 89342 ≤ s.ppu.position + 3 * (t.cycles - s.cycles) := by
  simp only [frameComplete, framesCompleted, hs, bne_iff_ne, frameWraps_ne_zero]

/-- A next state is the PPU's turn after a CPU step. -/
theorem Ends.next_cases {s t : State} (h : Ends s (.next t)) : ∃ u, Keeps s u ∧ t = couplePpu s.cycles u := by
  cases h with
  | next hs hu => exact ⟨_, hu, rfl⟩
  | leavesNone hr => cases hr

theorem Keeps.countersOk {s u : State} (h : Keeps s u) : u.ppu.countersOk = s.ppu.countersOk := by
  simp only [Ppu.countersOk, h.scanline, h.cycle]

theorem Keeps.position {s u : State} (h : Keeps s u) : u.ppu.position = s.ppu.position := by
  simp only [Ppu.position, h.scanline, h.cycle]

@[simp] theorem couplePpu_cycles (c0 : Nat) (s : State) : (couplePpu c0 s).cycles = s.cycles := by
  rw [couplePpu_frame]

/-- The PPU's turn under `Nes` moves its counters by three times the cycles elapsed. -/
theorem couplePpu_counters (c0 : Nat) {s : State} (hs : s.params.busVariant = .nes)
    (h : s.ppu.countersOk = true) : (couplePpu c0 s).ppu.countersOk = true ∧
      (couplePpu c0 s).ppu.position = (s.ppu.position + 3 * (s.cycles - c0)) % 89342 := by
  rw [couplePpu_ppu hs]
  exact ppuTick_counters s.cart (3 * (s.cycles - c0)) h

end Sys2Proof.Machine
end

section
/-! SUPPORT. The host's moves keep the invariant (R236). -/

namespace Sys2Proof.Machine

/-- The held buttons are no part of the invariant. -/
theorem State.Inv.setButtons {s : State} (h : s.Inv) (v : Byte) : (s.setButtons v).Inv := h

theorem applyMove_inv (m : HostMove) {s : State} (h : s.Inv) : (applyMove m s).Inv := by
  cases m with
  | buttons v => exact h.setButtons v
  | irqRequest => exact (keeps_setIrqPending s true).inv h
  | reset => exact (keeps_hostReset s).inv h

end Sys2Proof.Machine
end

section
/-! SUPPORT. Servicing NMI and IRQ (R202 to R205). The three stores are on the stack page, where a store costs nothing;
neither a store nor a read looks at the latches. -/

namespace Sys2Proof.Machine

theorem read16_setNmiPending_fst (k : Word) (b : Bool) (s : State) :
    (read16 k (s.setNmiPending b)).1 = (read16 k s).1 := by
  simp only [read16, busRead_setNmiPending]

theorem read16_setIrqPending_fst (k : Word) (b : Bool) (s : State) :
    (read16 k (s.setIrqPending b)).1 = (read16 k s).1 := by
  simp only [read16, busRead_setIrqPending]

theorem serviceNmi_eq (s : State) : serviceNmi s =
    (let u := busStore (stackAddress (s.sp - 2)) (pack s.p s.p.b)
      (busStore (stackAddress (s.sp - 1)) (lo8 s.pc) (busStore (stackAddress s.sp) (hi8 s.pc) s))
     { u with
       sp := s.sp - 3, p := { s.p with i := true }, pc := (read16 0xFFFA u).1, nmiPending := false
       cycles := s.cycles + s.params.intServiceCycles }) := by
  rw [serviceNmi, takeInterrupt_eq (by decide) (by decide)]
  simp only [busStore_setNmiPending, read16_setNmiPending_fst]
  simp only [State.addCycles, State.setNmiPending, busStore_stack_cycles]

theorem serviceIrq_eq (s : State) : serviceIrq s =
    (let u := busStore (stackAddress (s.sp - 2)) (pack s.p s.p.b)
      (busStore (stackAddress (s.sp - 1)) (lo8 s.pc) (busStore (stackAddress s.sp) (hi8 s.pc) s))
     { u with
       sp := s.sp - 3, p := { s.p with i := true }, pc := (read16 0xFFFE u).1, irqPending := false
       cycles := s.cycles + s.params.intServiceCycles }) := by
  rw [serviceIrq, takeInterrupt_eq (by decide) (by decide)]
  simp only [busStore_setIrqPending, read16_setIrqPending_fst]
  simp only [State.addCycles, State.setIrqPending, busStore_stack_cycles]

/-- A pending NMI comes first, whatever the IRQ latch and P.I say (R202). -/
theorem cpuStep_nmi {s : State} (hh : s.halted = false) (hn : s.nmiPending = true) :
    cpuStep s = .next (serviceNmi s) := by
  simp only [cpuStep, hh, hn, Bool.false_eq_true, if_false, if_true]

theorem cpuStep_irq {s : State} (hh : s.halted = false) (hn : s.nmiPending = false) (hi : s.irqPending = true)
    (hp : s.p.i = false) : cpuStep s = .next (serviceIrq s) := by
  simp only [cpuStep, hh, hn, hi, hp, Bool.not_false, Bool.and_self, Bool.false_eq_true, if_false, if_true]

end Sys2Proof.Machine
end

section
/-! SUPPORT. The DATA port (R217 to R222), by the PPU address in the latch: pattern tables, nametables, palette. -/

namespace Sys2Proof.Machine

theorem mirrorOffset_eq (mode : Mirroring) (k : Nat) : mirrorOffset mode k =
    if mode = .horizontal then (if k % 0x2000 ≥ 0x0800 then 0x0400 + k % 0x0400 else k % 0x0400)
    else k % 0x0800 := by
  cases mode <;> rfl

theorem palIndex_eq (mirror : Bool) (a : Nat) : palIndex mirror a =
    if mirror = true ∧ a % 32 ∈ [0x10, 0x14, 0x18, 0x1C] then a % 32 - 0x10 else a % 32 := by
  simp [palIndex, or_assoc]

/-- The databus is no part of the DATA port's address. -/
theorem dataAddress_databus (p : Ppu) (v : Byte) : dataAddress { p with databus := v } = dataAddress p := rfl

section data
variable (mirror : Bool) (c : Cart) {p : Ppu} (v : Byte)

theorem ppuRead_data_pattern (h : dataAddress p < 0x2000) : ppuRead mirror c .data p =
    (p.readBuffer, { p with
      readBuffer := chrAt c (dataAddress p), latch := stepLatch p, databus := p.readBuffer }) := by
  simp only [ppuRead, readRegister, readData, if_pos h]

theorem ppuRead_data_nametable (h1 : 0x2000 ≤ dataAddress p) (h2 : dataAddress p < 0x3F00) :
    ppuRead mirror c .data p = (p.readBuffer, { p with
      readBuffer := p.vram.read (mirrorOffset c.mirroring (dataAddress p)), latch := stepLatch p
      databus := p.readBuffer }) := by
  simp only [ppuRead, readRegister, readData, if_neg (Nat.not_lt.2 h1), if_pos h2]

theorem ppuRead_data_palette (h : 0x3F00 ≤ dataAddress p) :
    ppuRead mirror c .data p = (p.palette.read (palIndex mirror (dataAddress p)), { p with
      readBuffer := p.vram.read (mirrorOffset c.mirroring (dataAddress p - 0x1000)), latch := stepLatch p
      databus := p.palette.read (palIndex mirror (dataAddress p)) }) := by
  have h1 : ¬ dataAddress p < 0x2000 := by omega
  simp only [ppuRead, readRegister, readData, if_neg h1, if_neg (Nat.not_lt.2 h)]

theorem ppuWrite_data_pattern (h : dataAddress p < 0x2000) :
    ppuWrite mirror c .data v p = { p with latch := stepLatch p, databus := v } := by
  have h' : dataAddress { p with databus := v } < 0x2000 := h
  simp only [ppuWrite, writeRegister, writeData, if_pos h']
  rfl

theorem ppuWrite_data_nametable (h1 : 0x2000 ≤ dataAddress p) (h2 : dataAddress p < 0x3F00) :
    ppuWrite mirror c .data v p = { p with
      vram := p.vram.write (mirrorOffset c.mirroring (dataAddress p)) v, latch := stepLatch p, databus := v } := by
  have h1' : ¬ dataAddress { p with databus := v } < 0x2000 := Nat.not_lt.2 h1
  have h2' : dataAddress { p with databus := v } < 0x3F00 := h2
  simp only [ppuWrite, writeRegister, writeData, if_neg h1', if_pos h2']
  rfl

theorem ppuWrite_data_palette (h : 0x3F00 ≤ dataAddress p) :
    ppuWrite mirror c .data v p = { p with
      palette := p.palette.write (palIndex mirror (dataAddress p)) v, latch := stepLatch p, databus := v } := by
  have h1 : ¬ dataAddress { p with databus := v } < 0x2000 := by rw [dataAddress_databus]; omega
  have h2 : ¬ dataAddress { p with databus := v } < 0x3F00 := Nat.not_lt.2 h
  simp only [ppuWrite, writeRegister, writeData, if_neg h1, if_neg h2]
  rfl

end data

end Sys2Proof.Machine
end

section
/-! SUPPORT. One PPU cycle and the events at the end of each scanline (R223). -/

namespace Sys2Proof.Machine

theorem ppuCycle_within (c : Cart) {p : Ppu} (h : p.cycle.toNat < 340) :
    ppuCycle c p = { p with cycle := p.cycle + 1 } := by
  have hc : p.cycle + 1 ≠ 341 := by
    rw [ne_eq, ← BitVec.toNat_inj, BitVec.toNat_add]
    change ¬ (p.cycle.toNat + 1) % 512 = 341
    omega
  simp only [ppuCycle, if_neg hc]

theorem ppuCycle_last (c : Cart) {p : Ppu} (h : p.cycle.toNat = 340) :
    ppuCycle c p = endScanline c { p with cycle := 0 } := by
  have hc : p.cycle + 1 = 341 := by
    rw [BitVec.eq_of_toNat_eq (y := 340) h]
    rfl
  simp only [ppuCycle, if_pos hc]

/-- The scanline counter in range does not wrap at its width (log 15). -/
theorem scanline_succ_eq_iff {w : BitVec 16} (h : w.toNat < 262) (n : Nat) (hn : n < 65536) :
    w + 1 = BitVec.ofNat 16 n ↔ w.toNat + 1 = n := by
  rw [← BitVec.toNat_inj, BitVec.toNat_add, BitVec.toNat_ofNat, Nat.mod_eq_of_lt hn]
  change (w.toNat + 1) % 65536 = n ↔ _
  omega

section endScanline
variable (c : Cart) {p : Ppu}

/-- Lines 0 to 239 end with their rendering; after line 239 the sprites are drawn. -/
theorem endScanline_visible (h : p.scanline.toNat < 240) : endScanline c p =
    (let q := renderBg c p.scanline.toNat { p with scanline := p.scanline + 1 }
     if p.scanline.toNat = 239 then renderSprites c q else q) := by
  have hs := scanline_succ_eq_iff (w := p.scanline) (by omega)
  have h241 : p.scanline + 1 ≠ 241 := mt (hs 241 (by decide)).1 (by omega)
  have h262 : p.scanline + 1 ≠ 262 := mt (hs 262 (by decide)).1 (by omega)
  by_cases hl : p.scanline.toNat = 239
  · have h240 : p.scanline + 1 = 240 := (hs 240 (by decide)).2 (by omega)
    simp only [endScanline, if_pos h, renderBg_scanline, if_pos h240, renderSprites_scanline, if_neg h241, if_neg h262,
      if_pos hl]
    rfl
  · have h240 : p.scanline + 1 ≠ 240 := mt (hs 240 (by decide)).1 (by omega)
    simp only [endScanline, if_pos h, renderBg_scanline, if_neg h240, if_neg h241, if_neg h262, if_neg hl]
    rfl

/-- Lines from 240 on end without rendering: vblank begins after line 240, the frame wraps after line 261. -/
theorem endScanline_blank (h : 240 ≤ p.scanline.toNat) (h' : p.scanline.toNat < 262) : endScanline c p =
    (let q := { p with scanline := p.scanline + 1 }
     if p.scanline.toNat = 240 then { q with vblank := true, nmiOut := p.nmiOut || p.ctrl.getLsbD 7 }
     else if p.scanline.toNat = 261 then { q with scanline := 0, vblank := false }
     else q) := by
  have hs := scanline_succ_eq_iff h'
  have h240 : p.scanline + 1 ≠ 240 := mt (hs 240 (by decide)).1 (by omega)
  have h241 : p.scanline + 1 = 241 ↔ p.scanline.toNat = 240 := (hs 241 (by decide)).trans Nat.add_right_cancel_iff
  have h262 : p.scanline + 1 = 262 ↔ p.scanline.toNat = 261 := (hs 262 (by decide)).trans Nat.add_right_cancel_iff
  simp only [endScanline, if_neg (Nat.not_lt.2 h), if_neg h240, h241]
  by_cases hl : p.scanline.toNat = 240
  · have hn : p.scanline.toNat ≠ 261 := by omega
    simp only [if_pos hl, h262, if_neg hn]
  · simp only [if_neg hl, h262]

end endScanline

end Sys2Proof.Machine
end

section
/-! SUPPORT. What the background renderer leaves in each pixel (R225, R226). -/

namespace Sys2Proof.Machine

/-- The palette bits of a tile, 2 bits of its block's byte in the table at 0x3C0: the block's right half starts
2 bits up, its lower half 4. -/
theorem attrBase_eq (p : Ppu) (tx ty : Nat) : attrBase p tx ty =
    (p.vram.read (0x3C0 + ty / 4 * 8 + tx / 4)).toNat /
      2 ^ ((if tx % 4 ≥ 2 then 2 else 0) + (if ty % 4 ≥ 2 then 4 else 0)) % 4 * 4 := by
  simp only [attrBase, Nat.shiftRight_eq_div_pow]
  split <;> split <;> simp [Nat.div_div_eq_div_mul]

/-- The background renderer sets the 256 pixels of its line and keeps every other. -/
theorem renderBg_read (c : Cart) (p : Ppu) (s y : Nat) {x : Nat} (hx : x < 256) :
    (renderBg c s p).fb.read (y * 256 + x) = if y = s then bgPixel c p s x else p.fb.read (y * 256 + x) := by
  rw [renderBg_fb, Memory.read_writeRange, List.length_map, List.length_range]
  by_cases h : y = s
  · subst h
    rw [if_pos (by omega), if_pos rfl, Nat.add_sub_cancel_left, List.getD_eq_getElem _ _ (by simpa using hx),
      List.getElem_map, List.getElem_range]
  · rw [if_neg (by omega), if_neg h]

end Sys2Proof.Machine
end

section
/-! SUPPORT. What the sprite renderer leaves in each pixel (R227). Both of its loops write one byte several times, and
the last write counts: over the 64 pixels of a sprite at most one falls on a given place, and over the sprites, drawn
from 63 down to 0, the last is the lowest-numbered. -/

namespace Sys2Proof.Machine

/-- Where each step `f · k` of a fold leaves the byte `g k` at `a`, or the byte that was there if `g k` is none, the
fold leaves the byte of the last step that has one. -/
theorem read_foldl_eq_findSome? {f : Memory → Nat → Memory} {g : Nat → Option Byte} {a : Nat} (l : List Nat)
    (hok : ∀ m k, FbOk m → FbOk (f m k))
    (hread : ∀ m, FbOk m → ∀ k ∈ l, (f m k).read a = (g k).getD (m.read a)) {m : Memory} (hm : FbOk m) :
    (l.foldl f m).read a = (l.reverse.findSome? g).getD (m.read a) := by
  induction l generalizing m with
  | nil => rfl
  | cons k l ih =>
    rw [List.foldl_cons, ih (fun m hm j hj => hread m hm j (List.mem_cons_of_mem k hj)) (hok m k hm),
      hread m hm k List.mem_cons_self, List.reverse_cons, List.findSome?_append, List.findSome?_singleton,
      Option.getD_or]

/-- A search whose only outcome is `o` finds `o`. -/
theorem findSome?_eq_of_forall {α β : Type} {g : α → Option β} {l : List α} {o : Option β}
    (h : ∀ k ∈ l, g k = none ∨ g k = o) (ho : o ≠ none → ∃ k ∈ l, g k = o) : l.findSome? g = o := by
  cases hl : l.findSome? g with
  | none =>
    by_contra hne
    obtain ⟨k, hk, hgk⟩ := ho (Ne.symm hne)
    exact hne ((List.findSome?_eq_none_iff.1 hl k hk).symm.trans hgk)
  | some v =>
    obtain ⟨k, hk, hgk⟩ := List.exists_of_findSome?_eq_some hl
    rcases h k hk with hn | hn
    · rw [hn] at hgk; cases hgk
    · exact hgk.symm.trans hn

/-- The screen row of sprite `i`'s first row. -/
def spriteTop (p : Ppu) (i : Nat) : Nat := (p.oam.read (4 * i)).toNat

/-- The screen column of sprite `i`'s first column. -/
def spriteLeft (p : Ppu) (i : Nat) : Nat := (p.oam.read (4 * i + 3)).toNat

/-- The 2-bit value of pixel (row, col) of sprite `i`, flips included. -/
def spriteValue (c : Cart) (p : Ppu) (i row col : Nat) : Nat :=
  tileValue c (patternBank (p.ctrl.getLsbD 3)) (p.oam.read (4 * i + 1))
    (if (p.oam.read (4 * i + 2)).getLsbD 7 then 7 - row else row)
    (if (p.oam.read (4 * i + 2)).getLsbD 6 then col else 7 - col)

/-- The colour of a 2-bit value in sprite `i`'s sub-palette. -/
def spriteColour (p : Ppu) (i val : Nat) : Byte :=
  p.palette.read (0x10 + 4 * ((p.oam.read (4 * i + 2)).toNat % 4) + val)

theorem drawSpritePixel_eq (c : Cart) (p : Ppu) (i row col : Nat) (m : Memory) : drawSpritePixel c p i row col m =
    if spriteValue c p i row col > 0 ∧ spriteLeft p i + col < 256 ∧ spriteTop p i + row < 240 then
      m.write ((spriteTop p i + row) * 256 + (spriteLeft p i + col)) (spriteColour p i (spriteValue c p i row col))
    else m := rfl

theorem spriteByte_eq (c : Cart) (p : Ppu) (y x i : Nat) : spriteByte c p y x i =
    if spriteTop p i ≤ y ∧ y < spriteTop p i + 8 ∧ spriteLeft p i ≤ x ∧ x < spriteLeft p i + 8 then
      if spriteValue c p i (y - spriteTop p i) (x - spriteLeft p i) = 0 then none
      else some (spriteColour p i (spriteValue c p i (y - spriteTop p i) (x - spriteLeft p i)))
    else none := rfl

/-- The byte that the `k`-th pixel of sprite `i` (row `k / 8`, column `k % 8`) draws at row `y`, column `x`, or none
where it is transparent or elsewhere. -/
def spritePixelByte (c : Cart) (p : Ppu) (y x i k : Nat) : Option Byte :=
  if spriteTop p i + k / 8 = y ∧ spriteLeft p i + k % 8 = x then spriteByte c p y x i else none

theorem drawSpritePixel_read (c : Cart) (p : Ppu) {y x : Nat} (hy : y < 240) (hx : x < 256) (i : Nat) {k : Nat}
    (hk : k < 64) {m : Memory} (hm : FbOk m) : (drawSpritePixel c p i (k / 8) (k % 8) m).read (y * 256 + x) =
      (spritePixelByte c p y x i k).getD (m.read (y * 256 + x)) := by
  rw [spritePixelByte, drawSpritePixel_eq]
  by_cases h : spriteTop p i + k / 8 = y ∧ spriteLeft p i + k % 8 = x
  · have hbox : spriteTop p i ≤ y ∧ y < spriteTop p i + 8 ∧ spriteLeft p i ≤ x ∧ x < spriteLeft p i + 8 := by omega
    rw [if_pos h, spriteByte_eq, if_pos hbox]
    obtain ⟨rfl, rfl⟩ := h
    simp only [Nat.add_sub_cancel_left]
    by_cases hv : spriteValue c p i (k / 8) (k % 8) = 0
    · rw [if_pos hv, if_neg (by omega), Option.getD_none]
    · rw [if_neg hv, if_pos ⟨Nat.pos_of_ne_zero hv, hx, hy⟩, Memory.read_write_same hm.1, Option.getD_some]
  · rw [if_neg h, Option.getD_none]
    split
    · exact Memory.read_write_other _ _ (by omega)
    · rfl

/-- A sprite draws at a place by at most one of its 64 pixels, so their order does not matter. -/
theorem findSome?_spritePixelByte (c : Cart) (p : Ppu) (y x i : Nat) :
    (List.range 64).reverse.findSome? (spritePixelByte c p y x i) = spriteByte c p y x i := by
  refine findSome?_eq_of_forall (fun k _ => ?_) (fun hs => ?_)
  · rw [spritePixelByte]
    split
    · exact .inr rfl
    · exact .inl rfl
  · have hbox : spriteTop p i ≤ y ∧ y < spriteTop p i + 8 ∧ spriteLeft p i ≤ x ∧ x < spriteLeft p i + 8 := by
      by_contra h
      exact hs (if_neg h)
    refine ⟨(y - spriteTop p i) * 8 + (x - spriteLeft p i), ?_, if_pos (by omega)⟩
    rw [List.mem_reverse, List.mem_range]
    omega

theorem drawSprite_read (c : Cart) (p : Ppu) {y x : Nat} (hy : y < 240) (hx : x < 256) (i : Nat) {m : Memory}
    (hm : FbOk m) : (drawSprite c p m i).read (y * 256 + x) = (spriteByte c p y x i).getD (m.read (y * 256 + x)) := by
  have hpixel (m : Memory) (hm : FbOk m) (k : Nat) (hk : k ∈ List.range 64) :=
    drawSpritePixel_read c p hy hx i (List.mem_range.1 hk) hm
  rw [drawSprite, read_foldl_eq_findSome? _ (fun _ k => drawSpritePixel_ok c p i (k / 8) (k % 8)) hpixel hm,
    findSome?_spritePixelByte]

end Sys2Proof.Machine
end

section
/-! SUPPORT. The proofs of the statements about interrupts, the PPU's progress and its pictures, and the states a run
can reach. -/

namespace Sys2Proof.Settled

open Sys2Proof.Machine

/-- Settles O11: the CPU step keeps the PPU's counters and its cycle count never falls; the PPU's turn then moves the
place in the frame by three times the cycles. -/
theorem ppuAdvancesThreePerCpuCycle : Obligations.PpuAdvancesThreePerCpuCycle := by
  intro s t hs hok ht
  obtain ⟨u, hu, rfl⟩ := (ht ▸ step_ends s).next_cases
  obtain ⟨hok', hpos⟩ := couplePpu_counters s.cycles (hu.params ▸ hs) (hu.countersOk.trans hok)
  rw [ht, frameComplete_next_iff hs, exists_last_cycle_iff s.cart hok, couplePpu_cycles]
  exact ⟨hu.cycles, hok', hu.position ▸ hpos, Iff.rfl⟩

/-- Settles O10, by induction on the run: a launch meets the invariant, and steps and host moves keep it. -/
theorem reachableStatesKeepInvariant : Obligations.ReachableStatesKeepInvariant := by
  intro s hs
  induction hs with
  | launch cart params ramImage hc hr hb => exact boot_inv params hc hr hb
  | step s t _ ht ih => exact invariantKeptByStep s t ih ht
  | move s m _ ih => exact applyMove_inv m ih

/-- Settles O15: the CPU step services the NMI, and the PPU's turn follows. -/
theorem nmiService : Obligations.NmiService := by
  intro s hu hh hn
  rw [step_of_unmarked hu, cpuStep_nmi hh hn, serviceNmi_eq]
  rfl

/-- Settles O16: P.I decides between the service and an instruction. -/
theorem irqService : Obligations.IrqService := by
  intro s hu hh hn hi
  refine ⟨fun hp => ?_, fun hp => ?_⟩
  · rw [step_of_unmarked hu, cpuStep_irq hh hn hi hp, serviceIrq_eq]
    rfl
  · rw [step_of_unmarked hu, cpuStep_runs hh hn (fun _ => hp)]

/-- Settles O53, range by range of the PPU address. -/
theorem dataPort : Obligations.DataPort := by
  intro mirror c p v a next nametable entry buffered
  have hn (k : Nat) : nametable k = mirrorOffset c.mirroring k := (mirrorOffset_eq c.mirroring k).symm
  have he : entry = palIndex mirror a := (palIndex_eq mirror a).symm
  simp only [hn, he]
  refine ⟨fun h => ⟨?_, ?_⟩, fun h1 h2 => ⟨?_, ?_⟩, fun h => ⟨?_, ?_⟩⟩
  · exact ppuRead_data_pattern mirror c h
  · exact ppuWrite_data_pattern mirror c v h
  · exact ppuRead_data_nametable mirror c h1 h2
  · exact ppuWrite_data_nametable mirror c v h1 h2
  · exact ppuRead_data_palette mirror c h
  · exact ppuWrite_data_palette mirror c v h

/-- Settles O55: the last cycle of a line ends it, by the line's number. -/
theorem scanlineEvents : Obligations.ScanlineEvents := by
  intro c p hok q line
  obtain ⟨hline, -⟩ := p.countersOk_iff.1 hok
  refine ⟨ppuCycle_within c, fun hc => ?_⟩
  rw [ppuCycle_last c hc]
  have hvis (h : line < 240) := endScanline_visible c (p := { p with cycle := 0 }) h
  have hblank (h : 240 ≤ line) := endScanline_blank c (p := { p with cycle := 0 }) h hline
  refine ⟨fun h => ?_, fun h => ?_, fun h => ?_, fun h h' => ?_, fun h => ?_⟩
  · exact (hvis (by omega)).trans (if_neg (show line ≠ 239 by omega))
  · exact (hvis (by omega)).trans (if_pos h)
  · exact (hblank (by omega)).trans (if_pos h)
  · exact (hblank (by omega)).trans ((if_neg (show line ≠ 240 by omega)).trans (if_neg (show line ≠ 261 by omega)))
  · exact (hblank (by omega)).trans ((if_neg (show line ≠ 240 by omega)).trans (if_pos h))

/-- Settles O56: the colour is `bgPixel`, with the sub-palette's bits as a quotient (`attrBase_eq`). -/
theorem backgroundPixels : Obligations.BackgroundPixels := by
  intro c p s y x _ _ hx tile plane chrByte bit val attr quadrant colour
  have hcolour : colour = bgPixel c p s x := by
    rw [bgPixel, attrBase_eq]
    rfl
  rw [hcolour, renderBg_read c p s y hx]

/-- Settles O57: entry 0 is drawn last, so the lowest-numbered sprite has the last write. -/
theorem spritePixels : Obligations.SpritePixels := by
  intro c p y x hy hx hm
  obtain ⟨-, -, -, hfb⟩ := p.memoriesOk_iff.1 hm
  rw [renderSprites_fb, read_foldl_eq_findSome? _ (drawSprite_ok c p)
    (fun _ hm i _ => drawSprite_read c p hy hx i hm) hfb, List.reverse_reverse]

end Sys2Proof.Settled
end

section
/-! SUPPORT. The host's `reset()` (R238): its accesses are the two bytes of the reset vector, which have no side effect
and do not depend on what it sets. -/

namespace Sys2Proof.Machine

section read16
variable (k : Word) (s : State)

theorem read16_setSp_fst (v : Byte) : (read16 k (s.setSp v)).1 = (read16 k s).1 := by
  simp only [read16, busRead_setSp]

theorem read16_setPc_fst (v : Word) : (read16 k (s.setPc v)).1 = (read16 k s).1 := by
  simp only [read16, busRead_setPc]

theorem read16_setFlags_fst (p : Flags) : (read16 k (s.setFlags p)).1 = (read16 k s).1 := by
  simp only [read16, busRead_setFlags]

theorem read16_setHalted_fst (b : Bool) : (read16 k (s.setHalted b)).1 = (read16 k s).1 := by
  simp only [read16, busRead_setHalted]

end read16

theorem hostReset_eq (s : State) : hostReset s =
    (((s.setSp 0xFD).setFlags { s.p with i := true }).setPc (read16 0xFFFC s).1).setHalted false := by
  rw [hostReset, read16_prg _ (by decide) (by decide), read16_setFlags_fst, read16_setSp_fst]

/-- `reset()` leaves the reset vector as it was, so PC is what the vector still reads as. -/
theorem hostReset_pc_eq_vector (s : State) : (hostReset s).pc = (read16 0xFFFC (hostReset s)).1 := by
  rw [hostReset_eq, read16_setHalted_fst, read16_setPc_fst, read16_setFlags_fst, read16_setSp_fst]
  rfl

end Sys2Proof.Machine
end

section
/-! SUPPORT. Cartridge admission (R241): which headers are accepted, and what the cartridge of an accepted image holds. -/

namespace Sys2Proof.Machine

theorem getD_drop (bytes : List Byte) (start k : Nat) : (bytes.drop start).getD k 0 = bytes.getD (start + k) 0 := by
  simp only [List.getD_eq_getElem?_getD, List.getElem?_drop]

/-- A slice of a byte sequence, laid out as a memory, reads as the sequence itself from the slice's start on. -/
theorem read_ofBytes_slice (bytes : List Byte) (start : Nat) {len k : Nat} (h : k < len) :
    (Memory.ofBytes 0 ((bytes.drop start).take len)).read k = bytes.getD (start + k) 0 := by
  simp [Memory.read_ofBytes, List.getD_eq_getElem?_getD, h]

theorem ofBytes_take_below (bytes : List Byte) (len : Nat) : (Memory.ofBytes 0 (bytes.take len)).below len = true :=
  Memory.ofBytes_below 0 _ (by simp)

theorem prgSizeOf_eq_some_iff {b4 : Byte} {size : PrgSize} :
    prgSizeOf b4 = some size ↔ (b4 = 1 ∨ b4 = 2) ∧ size.bytes = 16384 * b4.toNat := by
  unfold prgSizeOf
  split
  · next h => subst h; cases size <;> decide
  split
  · next h => subst h; cases size <;> decide
  · next h1 h2 => exact iff_of_false nofun fun h => h.1.elim h1 h2

theorem exists_prgSize {b4 : Byte} (h : b4 = 1 ∨ b4 = 2) : ∃ size : PrgSize, size.bytes = 16384 * b4.toNat := by
  rcases h with rfl | rfl
  · exact ⟨.k16, rfl⟩
  · exact ⟨.k32, rfl⟩

section payload
variable {size : PrgSize} {b5 b6 : Byte} {body : List Byte}

theorem le_of_admitPayload {c : Cart} (h : admitPayload size b5 b6 body = .ok c) :
    trainerLength b6 + size.bytes + 8192 * b5.toNat ≤ body.length := by
  simp only [admitPayload] at h
  split at h
  · cases h
  · next hle => exact Nat.not_lt.1 hle

/-- A payload that is there is admitted, and the cartridge holds the bytes after the trainer. -/
theorem admitPayload_ok (h : trainerLength b6 + size.bytes + 8192 * b5.toNat ≤ body.length) :
    ∃ c, admitPayload size b5 b6 body = .ok c ∧ c.wellFormed = true ∧ c.prgSize = size ∧ c.chrLen = 8192 * b5.toNat ∧
      c.mirroring = mirroringOf b6 ∧
      (∀ k < size.bytes, c.prg.read k = body.getD (trainerLength b6 + k) 0) ∧
      (∀ k < 8192 * b5.toNat, c.chr.read k = body.getD (trainerLength b6 + size.bytes + k) 0) := by
  refine ⟨_, if_neg (Nat.not_lt.2 h), ?_, rfl, rfl, rfl, fun k hk => ?_, fun k hk => ?_⟩
  · simp only [Cart.wellFormed, Memory.ofBytes_wf, ofBytes_take_below, Bool.and_self]
  · exact read_ofBytes_slice body _ hk
  · rw [List.drop_drop]
    exact read_ofBytes_slice body _ hk

end payload

/-- The magic, version and mapper clauses of R241. -/
def HeaderAccepted (file : List Byte) : Prop :=
  file.take 4 = [0x4E, 0x45, 0x53, 0x1A] ∧ file.getD 7 0 &&& 0x0C = 0 ∧ mapperOf (file.getD 6 0) (file.getD 7 0) = 0

theorem exists_header {file : List Byte} (h : 16 ≤ file.length) :
    ∃ m0 m1 m2 m3 b4 b5 b6 b7 b8 b9 b10 b11 b12 b13 b14 b15 body, file =
      m0 :: m1 :: m2 :: m3 :: b4 :: b5 :: b6 :: b7 :: b8 :: b9 :: b10 :: b11 :: b12 :: b13 :: b14 :: b15 :: body :=
  ⟨file[0], file[1], file[2], file[3], file[4], file[5], file[6], file[7], file[8], file[9], file[10], file[11],
    file[12], file[13], file[14], file[15], file.drop 16, by simp only [List.getElem_cons_drop, List.drop_zero]⟩

/-- A whole, accepted header with a PRG size leaves the decision to the payload. -/
theorem admitImage_of_accepted {file : List Byte} {size : PrgSize} (h : 16 ≤ file.length)
    (hacc : HeaderAccepted file) (hsize : prgSizeOf (file.getD 4 0) = some size) :
    admitImage file = admitPayload size (file.getD 5 0) (file.getD 6 0) (file.drop 16) := by
  obtain ⟨m0, m1, m2, m3, b4, b5, b6, b7, _, _, _, _, _, _, _, _, body, rfl⟩ := exists_header h
  obtain ⟨hmagic, hversion, hmapper⟩ := hacc
  replace hmagic : [m0, m1, m2, m3] = [0x4E, 0x45, 0x53, 0x1A] := hmagic
  replace hversion : b7 &&& 0x0C = 0 := hversion
  replace hmapper : mapperOf b6 b7 = 0 := hmapper
  replace hsize : prgSizeOf b4 = some size := hsize
  change admitImage _ = admitPayload size b5 b6 body
  simp only [admitImage, hmagic, hversion, hmapper, hsize, ne_eq, not_true_eq_false, if_false]

/-- Only such an image is admitted, and by way of its payload. -/
theorem accepted_of_admitImage {file : List Byte} {c : Cart} (h : admitImage file = .ok c) :
    16 ≤ file.length ∧ HeaderAccepted file ∧ ∃ size, prgSizeOf (file.getD 4 0) = some size ∧
      admitPayload size (file.getD 5 0) (file.getD 6 0) (file.drop 16) = .ok c := by
  unfold admitImage at h
  split at h
  case h_2 => cases h
  split at h
  case isTrue => cases h
  case isFalse hmagic =>
  split at h
  case isTrue => cases h
  case isFalse hversion =>
  split at h
  case isTrue => cases h
  case isFalse hmapper =>
  split at h
  case h_1 => cases h
  case h_2 size hsize =>
  exact ⟨by simp, ⟨not_not.1 hmagic, not_not.1 hversion, not_not.1 hmapper⟩, size, hsize, h⟩

end Sys2Proof.Machine
end

section
/-! SUPPORT. The proofs of the statements about `reset()`, the state after it and the admission of a cartridge. -/

namespace Sys2Proof.Settled

open Sys2Proof.Machine

/-- Settles O7: the reset vector lies in PRG ROM or flat RAM, so reading it has no side effect (`hostReset_eq`). -/
theorem hostResetEffect : Obligations.HostResetEffect := hostReset_eq

/-- Settles O6: the state after reset is a launch, so PC is what the reset vector reads as; every other field is the
value written at power-on or by `reset()`. -/
theorem resetState : Obligations.ResetState := by
  have hpc : State.reset.pc = (read16 0xFFFC State.reset).1 := by
    rw [Laws.reset_eq_hostReset]
    exact hostReset_pc_eq_vector _
  exact ⟨rfl, rfl, rfl, rfl, hpc, rfl, rfl, rfl, rfl, rfl, rfl, rfl, Memory.read_nil, Memory.read_nil, Memory.read_nil,
    Memory.read_nil, Memory.read_nil, Memory.read_nil, fun _ _ => rfl, rfl, rfl, rfl, rfl, rfl, rfl, rfl, rfl, rfl, rfl,
    rfl, rfl, rfl⟩

/-- Settles O59: an image of the admitted form is decided by its payload (`admitImage_of_accepted`, `admitPayload_ok`),
and an admitted image has that form. -/
theorem cartridgeAdmission : Obligations.CartridgeAdmission := by
  intro file byte start prgLen chrLen ok
  have hstart : start = 16 + trainerLength (byte 6) := rfl
  refine ⟨fun hbad => ?_, fun ⟨hmagic, hversion, hmapper, hunits, hlen⟩ => ?_⟩
  · cases hadm : admitImage file with
    | error e => exact ⟨e, rfl⟩
    | ok c =>
      obtain ⟨hfile, ⟨hmagic, hversion, hmapper⟩, size, hsize, hpay⟩ := accepted_of_admitImage hadm
      obtain ⟨hunits, (hbytes : size.bytes = prgLen)⟩ := prgSizeOf_eq_some_iff.1 hsize
      refine absurd ⟨hmagic, hversion, hmapper, hunits, ?_⟩ hbad
      have hle : trainerLength (byte 6) + size.bytes + chrLen ≤ (file.drop 16).length := le_of_admitPayload hpay
      rw [List.length_drop] at hle
      omega
  · obtain ⟨size, hbytes⟩ := exists_prgSize hunits
    have hpay : trainerLength (byte 6) + size.bytes + chrLen ≤ (file.drop 16).length := by
      rw [List.length_drop]
      omega
    obtain ⟨c, hadm, hwf, rfl, hchr, hmirror, hprgRead, hchrRead⟩ := admitPayload_ok hpay
    refine ⟨c, ?_, hwf, hbytes, hchr, hmirror, fun k hk => ?_, fun k hk => ?_⟩
    · rw [← hadm]
      exact admitImage_of_accepted (by omega) ⟨hmagic, hversion, hmapper⟩ (prgSizeOf_eq_some_iff.2 ⟨hunits, hbytes⟩)
    · rw [hprgRead k (hbytes ▸ hk), getD_drop, hstart, Nat.add_assoc]
    · rw [hchrRead k hk, getD_drop, hstart, hbytes, Nat.add_assoc 16, Nat.add_assoc 16]

end Sys2Proof.Settled
end
